-- ==== Sys2Proof/Word.lean ====
section
/-! DEFINITION. The bit vectors of the block: one name for each format of spec/30_encoding.md
and each register width of spec/10_state.md. Bit k of every value has weight 2^k (R5). -/

namespace Sys2Proof

/-- Format PAY (R47): the 104-bit payload, byte 0 in bits 103:96. -/
abbrev Payload := BitVec 104

/-- The 102-bit payload value left after the two ignored bits (R37, R78). -/
abbrev Data := BitVec 102

/-- Format IN (R48): RST in bit 105, START in bit 104, PAYLOAD_IN in bits 103:0. -/
abbrev InWord := BitVec 106

/-- Register FCS (R16). -/
abbrev Fcs := BitVec 11

/-- Format CW (R49). -/
abbrev Codeword := BitVec 11

/-- Format CHR (R50). -/
abbrev Character := BitVec 13

/-- Format BAR (R51): bit 1 is asc, bit 0 is dsc. -/
abbrev Bar := BitVec 2

/-- Format BME (R53): one entry of ROM BARMAP. -/
abbrev Bme := BitVec 16

end Sys2Proof
end

