-- ==== Sys2Proof/Machine/Flags.lean ====
section
/-! DEFINITION. The selects of the datapath (R24, R57): parts of register FCS, the value of a
codeword, and the pair (asc, dsc). They choose a value, never a next operation (R105). -/

namespace Sys2Proof.Machine

/-- FCS[10] selects FOLD (R80). -/
def foldSelected (f : Fcs) : Bool := f.getLsbD 10

/-- The mask 512, 256, …, 1 of codeword i (R85). -/
def complementMask (i : Fin 10) : Fcs := 512#11 >>> i.val

/-- The character from codeword i is complemented when FCS AND (512 >> i) is nonzero (R55, R85). -/
def complementSelected (f : Fcs) (i : Fin 10) : Bool := (f &&& complementMask i) != 0#11

/-- A codeword of at most 1286 reads ROM5 (R54, R84). -/
def selectsRom5 (c : Codeword) : Bool := decide (c.toNat ≤ 1286)

/-- A codeword of 1287 to 1364 reads ROM2 (R54, R84; legal codewords are 0..1364, R49). -/
def selectsRom2 (c : Codeword) : Bool := decide (1287 ≤ c.toNat ∧ c.toNat ≤ 1364)

/-- The BAR word of an (asc, dsc) pair: asc * 2 + dsc (R51). -/
def barWord (asc dsc : Bool) : Bar := BitVec.ofNat 2 (asc.toNat * 2 + dsc.toNat)

end Sys2Proof.Machine
end

