-- ==== Sys2Proof/Syntax.lean ====
section
/-! DEFINITION. The rows of spec/opcode_table.json as one inductive (R57), and the words that
select them. A word is presented to one decoder of the block: the host's IN word to the command
decoder (R48), a select word to one unit of the datapath (R57). -/

namespace Sys2Proof

/-- Which codeword or character of the ten (R17, R18). -/
abbrev CwIndex := Fin 10

/-- Which bar position of the sixty-five (R19). -/
abbrev BarIndex := Fin 65

/-- The operations of the operation map (R57), one constructor per row of the opcode table.
Each carries the word of its row's format, ignored bits included, and the codeword or bar position
it works on where the row has one. -/
inductive Instr where
  /-- RESET: an IN word with RST = 1; START and PAYLOAD_IN are any (R118). -/
  | reset (start : Bool) (payload : Payload)
  /-- ENCODE: RST = 0, START = 1, in state BUSY = 0 (R97). -/
  | encode (payload : Payload)
  /-- ENCODE_IGNORED: RST = 0, START = 1, in state BUSY = 1 (R100). -/
  | encodeIgnored (payload : Payload)
  /-- NOP: RST = 0, START = 0 (R98, R101). -/
  | nop (payload : Payload)
  /-- FCSGEN over a PAY word (R72). -/
  | fcsgen (p : Payload)
  /-- TRUNCATE of a PAY word (R78). -/
  | truncate (p : Payload)
  /-- DECOMPOSE of the DATA field of a PAY word (R79). -/
  | decompose (p : Payload)
  /-- FOLD, selected by an FCS word with bit 10 set (R80). -/
  | fold (f : Fcs)
  /-- NOFOLD, selected by an FCS word with bit 10 clear (R80). -/
  | nofold (f : Fcs)
  /-- LUT5 for codeword i, selected by a CW word of 0..1286 (R84). -/
  | lut5 (i : CwIndex) (c : Codeword)
  /-- LUT2 for codeword i, selected by a CW word of 1287..1364 (R84). -/
  | lut2 (i : CwIndex) (c : Codeword)
  /-- COMPLEMENT for codeword i, selected by an FCS word with bit 9-i set (R85). -/
  | complement (i : CwIndex) (f : Fcs)
  /-- PASS for codeword i, selected by an FCS word with bit 9-i clear (R85). -/
  | pass (i : CwIndex) (f : Fcs)
  /-- REVERSE; no bit of its CHR word selects anything (R86). -/
  | reverse (w : Character)
  /-- BAR_T at bar i: (asc, dsc) = (0, 0) (R92). -/
  | barT (i : BarIndex)
  /-- BAR_D at bar i: (asc, dsc) = (0, 1) (R92). -/
  | barD (i : BarIndex)
  /-- BAR_A at bar i: (asc, dsc) = (1, 0) (R92). -/
  | barA (i : BarIndex)
  /-- BAR_F at bar i: (asc, dsc) = (1, 1) (R92). -/
  | barF (i : BarIndex)
  deriving DecidableEq, Repr

/-- A word and the decoder it is presented to. The host presents IN words only; the other
constructors present one select word to one datapath unit alone (log entry 2). -/
inductive Slot where
  /-- An IN word, sampled by the command decoder at a rising edge (R48). -/
  | cmd (w : InWord)
  /-- A PAY word at the FCS generator. -/
  | fcsgen (p : Payload)
  /-- A PAY word at the truncation. -/
  | truncate (p : Payload)
  /-- A PAY word at the decomposer. -/
  | decompose (p : Payload)
  /-- An FCS word at the fold select. -/
  | fold (f : Fcs)
  /-- A CW word at the character lookup of codeword i. -/
  | lut (i : CwIndex) (c : Codeword)
  /-- An FCS word at the complement select of codeword i. -/
  | comp (i : CwIndex) (f : Fcs)
  /-- A CHR word at the reversal. -/
  | reverse (w : Character)
  /-- A BAR word at the multiplexer of bar i. -/
  | bar (i : BarIndex) (b : Bar)
  deriving DecidableEq, Repr

/-- The format column of the opcode table. -/
inductive Format where
  | inWord | pay | fcs | cw | chr | bar
  deriving DecidableEq, Repr

/-- The format of a presented word. -/
def Slot.format : Slot → Format
  | .cmd _ => .inWord
  | .fcsgen _ => .pay
  | .truncate _ => .pay
  | .decompose _ => .pay
  | .fold _ => .fcs
  | .lut _ _ => .cw
  | .comp _ _ => .fcs
  | .reverse _ => .chr
  | .bar _ _ => .bar

/-- The format the opcode table gives an instruction's row. -/
def Instr.format : Instr → Format
  | .reset _ _ => .inWord
  | .encode _ => .inWord
  | .encodeIgnored _ => .inWord
  | .nop _ => .inWord
  | .fcsgen _ => .pay
  | .truncate _ => .pay
  | .decompose _ => .pay
  | .fold _ => .fcs
  | .nofold _ => .fcs
  | .lut5 _ _ => .cw
  | .lut2 _ _ => .cw
  | .complement _ _ => .fcs
  | .pass _ _ => .fcs
  | .reverse _ => .chr
  | .barT _ => .bar
  | .barD _ => .bar
  | .barA _ => .bar
  | .barF _ => .bar

end Sys2Proof
end

