-- ==== Sys2Proof/WellFormed.lean ====
section
/-! DEFINITION. When a term of Instr is one the opcode table spells: the select word it carries
selects its row (R57). -/

namespace Sys2Proof

/-- The word an instruction carries selects its row: the select column of the opcode table. -/
def Instr.wellFormed : Instr → Bool
  | .reset _ _ => true
  | .encode _ => true
  | .encodeIgnored _ => true
  | .nop _ => true
  | .fcsgen _ => true
  | .truncate _ => true
  | .decompose _ => true
  | .fold f => Machine.foldSelected f
  | .nofold f => !Machine.foldSelected f
  | .lut5 _ c => Machine.selectsRom5 c
  | .lut2 _ c => Machine.selectsRom2 c
  | .complement i f => Machine.complementSelected f i
  | .pass i f => !Machine.complementSelected f i
  | .reverse _ => true
  | .barT _ => true
  | .barD _ => true
  | .barA _ => true
  | .barF _ => true

/-- The state condition of the opcode table: ENCODE is the row of a START word while BUSY = 0,
ENCODE_IGNORED the row of the same word while BUSY = 1; no other row has a condition (R48). -/
def Instr.allowedWhen (busy : Bool) : Instr → Bool
  | .encode _ => !busy
  | .encodeIgnored _ => busy
  | .reset _ _ => true
  | .nop _ => true
  | .fcsgen _ => true
  | .truncate _ => true
  | .decompose _ => true
  | .fold _ => true
  | .nofold _ => true
  | .lut5 _ _ => true
  | .lut2 _ _ => true
  | .complement _ _ => true
  | .pass _ _ => true
  | .reverse _ => true
  | .barT _ => true
  | .barD _ => true
  | .barA _ => true
  | .barF _ => true

end Sys2Proof
end

