-- ==== Sys2Proof/Decode.lean ====
section
/-! DEFINITION. From a presented word to an instruction (R48, R57), total, with a named rejection;
then the encoder, from the same tables. -/

namespace Sys2Proof

/-- Why a word is no instruction. -/
inductive Reject where
  /-- A CW word of 1365 to 2047: legal codewords are 0 to 1364 (R49). -/
  | reservedCodeword (c : Codeword)
  deriving DecidableEq, Repr

/-- IN[105] (R48). -/
def inRst (w : InWord) : Bool := w.getLsbD 105

/-- IN[104] (R48). -/
def inStart (w : InWord) : Bool := w.getLsbD 104

/-- IN[103:0] (R48). -/
def inPayload (w : InWord) : Payload := w.extractLsb' 0 104

/-- The IN word with the three given fields (R48). -/
def inWord (rst start : Bool) (payload : Payload) : InWord :=
  BitVec.ofBool rst ++ (BitVec.ofBool start ++ payload)

/-- The command an IN word spells while BUSY is `busy`: the rows of R48 in priority order. -/
def decodeCommand (busy : Bool) (w : InWord) : Instr :=
  if inRst w then .reset (inStart w) (inPayload w)
  else if inStart w then
    if busy then .encodeIgnored (inPayload w) else .encode (inPayload w)
  else .nop (inPayload w)

/-- The lookup a CW word selects for codeword i (R54, R84). -/
def decodeLut (i : CwIndex) (c : Codeword) : Except Reject Instr :=
  if Machine.selectsRom5 c then .ok (.lut5 i c)
  else if Machine.selectsRom2 c then .ok (.lut2 i c)
  else .error (.reservedCodeword c)

/-- The symbol row a BAR word selects for bar i (R51, R92). -/
def decodeBar (i : BarIndex) (b : Bar) : Instr :=
  if b = 0#2 then .barT i
  else if b = 1#2 then .barD i
  else if b = 2#2 then .barA i
  else .barF i

/-- The instruction a presented word selects while BUSY is `busy` (R48, R57). -/
def decode (busy : Bool) : Slot → Except Reject Instr
  | .cmd w => .ok (decodeCommand busy w)
  | .fcsgen p => .ok (.fcsgen p)
  | .truncate p => .ok (.truncate p)
  | .decompose p => .ok (.decompose p)
  | .fold f => .ok (if Machine.foldSelected f then .fold f else .nofold f)
  | .lut i c => decodeLut i c
  | .comp i f => .ok (if Machine.complementSelected f i then .complement i f else .pass i f)
  | .reverse w => .ok (.reverse w)
  | .bar i b => .ok (decodeBar i b)

/-- The word that spells an instruction, in its row's format (R47 to R51, R57). -/
def encode : Instr → Slot
  | .reset start payload => .cmd (inWord true start payload)
  | .encode payload => .cmd (inWord false true payload)
  | .encodeIgnored payload => .cmd (inWord false true payload)
  | .nop payload => .cmd (inWord false false payload)
  | .fcsgen p => .fcsgen p
  | .truncate p => .truncate p
  | .decompose p => .decompose p
  | .fold f => .fold f
  | .nofold f => .fold f
  | .lut5 i c => .lut i c
  | .lut2 i c => .lut i c
  | .complement i f => .comp i f
  | .pass i f => .comp i f
  | .reverse w => .reverse w
  | .barT i => .bar i 0#2
  | .barD i => .bar i 1#2
  | .barA i => .bar i 2#2
  | .barF i => .bar i 3#2

/-- The presented word that the opcode table's `nbits`-bit word `w` stands for. The table does not
say at which unit a word is presented, so the width picks the format: more than 104 bits an IN
word, 104 bits a PAY word at the FCS generator, 9 to 16 bits an FCS word at the fold (or, with a
bit above bit 10, a CHR word), up to 8 bits a BAR word at bar 0 (log entry 14). -/
def slotOfTableWord (nbits w : Nat) : Option Slot :=
  if 104 < nbits then
    if w < 2 ^ 106 then some (.cmd (BitVec.ofNat 106 w)) else none
  else if 16 < nbits then
    if w < 2 ^ 104 then some (.fcsgen (BitVec.ofNat 104 w)) else none
  else if 8 < nbits then
    if w < 2 ^ 11 then some (.fold (BitVec.ofNat 11 w))
    else if w < 2 ^ 13 then some (.reverse (BitVec.ofNat 13 w))
    else none
  else if w < 4 then some (.bar 0 (BitVec.ofNat 2 w))
  else none

/-- What the decoder reads from a word of the opcode table, in the state after reset (BUSY = 0). -/
def decodeTableWord (nbits w : Nat) : Option Instr :=
  match slotOfTableWord nbits w with
  | none => none
  | some x =>
    match decode false x with
    | .ok i => some i
    | .error _ => none

end Sys2Proof
end

