-- ==== Sys2Proof/Machine/Operands.lean ====
section
/-! DEFINITION. Operand forms: the bytes and fields of a payload (R36, R47), one bit of a character
(R38), and the packing of a result array on its port (R14). -/

namespace Sys2Proof.Machine

/-- Byte j of a payload, byte 0 the most significant: bits 103-8j down to 96-8j (R36, R47). -/
def payloadByte (p : Payload) (j : Nat) : BitVec 8 := p.extractLsb' (96 - 8 * j) 8

/-- Field DATA of a PAY word: bits 101:0 (R47). -/
def payloadData (p : Payload) : Data := p.extractLsb' 0 102

/-- Bit k of character `chr[k]` at position `pos` (R38, R56). -/
def charBit (chr : Vector Character 10) (k : Fin 10) (pos : Fin 13) : Bool := chr[k].getLsbD pos

/-- The number whose w-bit digits are the given values, the first the least significant (R14). -/
def packNat {w : Nat} : List (BitVec w) → Nat
  | [] => 0
  | x :: xs => x.toNat + 2 ^ w * packNat xs

/-- A result array on its port: element i in bits w*i+w-1 down to w*i (R14). -/
def packPort {w n : Nat} (v : Vector (BitVec w) n) : BitVec (w * n) :=
  BitVec.ofNat (w * n) (packNat v.toList)

end Sys2Proof.Machine
end

