-- ==== Sys2Proof/Config.lean ====
section
/-! DEFINITION. What an implementation fixes and the spec leaves open, and the free values. None
has a body, so nothing can be proved of its value. -/

namespace Sys2Proof.Config

/-- ENC_LATENCY less one. The one OPEN parameter of the spec (D4, R126): a constant number of
edges, at least 1 (log entry 8). -/
opaque latencyPred : Nat

/-- ENC_LATENCY: edges from the accepting edge to the completion edge (R98, R106, R126). -/
def encLatency : Nat := latencyPred + 1

/-- A FREE VALUE: what CNT holds where the spec leaves it unspecified, for the `n`-th time that
happens (R30, R118, U3; log entry 6). -/
opaque freeCnt (n : Nat) : Nat

/-- A FREE VALUE: what a lookup outside ROM5 would give; R40 says that none occurs (log entry 13). -/
opaque rom5OutOfRange (c : Codeword) : Character

/-- A FREE VALUE: what a lookup outside ROM2 would give; R40 says that none occurs (log entry 13). -/
opaque rom2OutOfRange (c : Codeword) : Character

end Sys2Proof.Config
end

