-- ==== Sys2Proof/Machine/State.lean ====
section
/-! DEFINITION. The state of the block (spec/10_state.md), the reasons a step or a host read can
stop, and the state after reset (R30). -/

namespace Sys2Proof.Machine

/-- The output ports (R14). -/
inductive Port where
  | busy | done | fcsOut | cwOut | chrOut | barsOut
  deriving DecidableEq, Repr

/-- The width of an output port (R14). -/
def Port.width : Port → Nat
  | .busy => 1
  | .done => 1
  | .fcsOut => 11
  | .cwOut => 110
  | .chrOut => 130
  | .barsOut => 130

/-- Why the machine stops with a fault. The block itself raises no exception (R107). -/
inductive Fault where
  /-- Raised by a busy edge that finds CNT = 0 while BUSY = 1, which no case of R102 covers and no
  run reaches, and by WAIT in such a state. Safe (log entry 11). -/
  | counterZero
  /-- Raised by a completion edge that finds P = ⊥ while BUSY = 1, which no run reaches. Safe (log
  entry 11). -/
  | payloadMissing
  /-- Raised by a host read of a result port whose register holds no value (R28, R122, U2). Safe:
  the hardware drives an unspecified value. -/
  | readOfNoValue (port : Port)
  /-- Raised by the host-script statement EXPECT when the port shows another value (R62). Safe: it
  is the host's own check, no act of the block (log entry 17). -/
  | expectMismatch (port : Port)
  /-- Raised by the host-script statement WAIT in a state with BUSY = 0 and DONE = 0, where DONE
  never comes (R62, R101). Safe (log entry 17). -/
  | waitNeverEnds
  deriving DecidableEq, Repr

/-- Why the machine refuses a presented word. -/
inductive Refusal where
  /-- Raised by an arm of exec for an instruction that has no meaning yet. Safe. No arm does. -/
  | notModelled (mnemonic : String)
  /-- Raised by step when a CW word of 1365 to 2047 is presented to a character lookup: no legal
  codeword (R49), and none ever arises (R40, R81). Safe (log entry 13). -/
  | reservedCodeword (c : Codeword)
  deriving DecidableEq, Repr

/-- The results of one ENCODE (R95). -/
structure Results where
  fcs : Fcs
  cw : Vector Codeword 10
  chr : Vector Character 10
  bar : Vector Bar 65
  deriving DecidableEq, Repr

/-- The wires between the units of the datapath (R2): what each operation of the operation map
(R57) hands to the next. They are the model's own (log entry 2): inside an ENCODE no value on them
is observable (R43), and the completion edge does not read them. -/
structure Datapath where
  /-- The output of the FCS generator (R72). -/
  fcs : Fcs
  /-- The output of the truncation (R78). -/
  data : Data
  /-- The codewords before the fold, W[0..9] (R79). -/
  w : Vector Codeword 10
  /-- The codewords after the fold, CW[0..9] (R79, R80). -/
  cw : Vector Codeword 10
  /-- The patterns read from the ROMs, L[0..9] (R84). -/
  l : Vector Character 10
  /-- The characters before the reversal, Q[0..9] (R85). -/
  q : Vector Character 10
  /-- The characters after the reversal, CHR[0..9] (R86). -/
  chr : Vector Character 10
  /-- The bar symbols, BAR[0..64] (R92). -/
  bar : Vector Bar 65
  deriving DecidableEq, Repr

/-- The state: the registers of R15 to R22, and three fields of the model's own. `none` is the
spec's ⊥, "holds no value" (R7, R28; log entry 4). -/
structure State where
  /-- STATUS.BUSY (R20). -/
  busy : Bool
  /-- STATUS.DONE (R21). -/
  done : Bool
  /-- CNT, the edges left until completion while BUSY = 1 (R22). -/
  cnt : Nat
  /-- P, the captured payload (R15). -/
  p : Option Payload
  /-- FCS (R16). -/
  fcs : Option Fcs
  /-- CW[0..9] (R17). -/
  cw : Option (Vector Codeword 10)
  /-- CHR[0..9] (R18). -/
  chr : Option (Vector Character 10)
  /-- BAR[0..64] (R19). -/
  bar : Option (Vector Bar 65)
  /-- The model's own: the words still to be presented, the next one first (log entries 1, 2). -/
  feed : List Slot
  /-- The model's own: the wires of the datapath (log entry 2). -/
  dp : Datapath
  /-- The model's own: how many free values have been taken (log entry 6). -/
  freeIdx : Nat
  deriving DecidableEq, Repr

/-- Every wire low. DESIGN CHOICE (log entry 3). -/
def Datapath.low : Datapath where
  fcs := 0
  data := 0
  w := Vector.replicate 10 0
  cw := Vector.replicate 10 0
  l := Vector.replicate 10 0
  q := Vector.replicate 10 0
  chr := Vector.replicate 10 0
  bar := Vector.replicate 65 0

/-- The state right after reset (R30): BUSY = 0, DONE = 0, P and the results ⊥. CNT is unspecified
there and 0 here (DESIGN CHOICE, log entry 5); the model's own fields are empty, low and 0 (DESIGN
CHOICE, log entries 1, 3, 7). -/
def State.reset : State where
  busy := false
  done := false
  cnt := 0
  p := none
  fcs := none
  cw := none
  chr := none
  bar := none
  feed := []
  dp := Datapath.low
  freeIdx := 0

/-- The outcome of a step of this machine. -/
abbrev Answer := Host.Outcome State Fault Refusal

end Sys2Proof.Machine
end

