-- ==== Sys2Proof/Machine/Ops.lean ====
section
/-! DEFINITION. The named operations on the state: what presents the next word, the register
transfers of the handshake (R97, R98, R99, R118), and writing the datapath's wires. The block takes
no exception, so there is no exception entry and no return (R107, R112). -/

namespace Sys2Proof.Machine

/-- The IN word of an idle host: RST = 0, START = 0, PAYLOAD_IN = 0 (log entry 1). -/
def idleWord : Slot := .cmd 0#106

/-- The word presented at the next step: the first of the feed, or the idle word of a host that has
nothing left to drive (log entry 1). -/
def fetch (s : State) : Slot :=
  match s.feed with
  | [] => idleWord
  | x :: _ => x

/-- The state with the presented word taken from the feed. -/
def advance (s : State) : State :=
  { s with feed := s.feed.tail }

/-- The reset action (R118): BUSY and DONE to 0, CNT unspecified (a free value, log entry 6), P and
every result to ⊥. -/
def resetAction (s : State) : State :=
  { s with
    busy := false, done := false, cnt := Config.freeCnt s.freeIdx, p := none
    fcs := none, cw := none, chr := none, bar := none
    freeIdx := s.freeIdx + 1 }

/-- The accept action (R97): P captured, BUSY to 1, DONE to 0, CNT to ENC_LATENCY, results to ⊥. -/
def acceptAction (payload : Payload) (s : State) : State :=
  { s with
    busy := true, done := false, cnt := Config.encLatency, p := some payload
    fcs := none, cw := none, chr := none, bar := none }

/-- The completion action (R99): every result, BUSY and DONE at one edge (R42). CNT has no meaning
from here on (R22, U3) and takes a free value (log entry 6). -/
def completeAction (r : Results) (s : State) : State :=
  { s with
    busy := false, done := true, cnt := Config.freeCnt s.freeIdx
    fcs := some r.fcs, cw := some r.cw, chr := some r.chr, bar := some r.bar
    freeIdx := s.freeIdx + 1 }

/-- The countdown action (R98): CNT to CNT - 1, nothing else. -/
def countAction (s : State) : State :=
  { s with cnt := s.cnt - 1 }

/-- The state with other values on the datapath's wires; no register changes (log entry 2). -/
def withWires (d : Datapath) (s : State) : State :=
  { s with dp := d }

/-- A busy edge (R98, R99, R102 cases 3 and 4), `encodeOf` being the function Encode: it completes
when CNT = 1 and counts when CNT > 1. CNT = 0, and a completion with P = ⊥, are guard faults (log
entry 11). -/
def busyEdgeWith (encodeOf : Payload → Results) (s : State) : Answer :=
  if s.cnt = 0 then .fault .counterZero
  else if s.cnt = 1 then
    match s.p with
    | some p => .next (completeAction (encodeOf p) s)
    | none => .fault .payloadMissing
  else .next (countAction s)

end Sys2Proof.Machine
end

