-- ==== Sys2Proof/Machine/Bars.lean ====
section
/-! DEFINITION. The bar selector (spec/44_bar_selector.md), the entries of BARMAP (R53), and the
meanings of BAR_T, BAR_D, BAR_A and BAR_F. -/

namespace Sys2Proof.Machine

/-- An entry of BARMAP with its four fields in range (R53, R91 (b) and (c)). -/
structure BarEntry where
  dscChr : Fin 10
  dscPos : Fin 13
  ascChr : Fin 10
  ascPos : Fin 13
  deriving DecidableEq, Repr

/-- BAR_MAP: 65 entries (R89, R91 (a)). A value of this type meets R91 (a), (b) and (c). -/
abbrev BarMap := Vector BarEntry 65

/-- The fields of a BME word; a word with a reserved field is refused (R53). -/
def barEntryOf (e : Bme) : Option BarEntry :=
  let dchr := (e.extractLsb' 12 4).toNat
  let dpos := (e.extractLsb' 8 4).toNat
  let achr := (e.extractLsb' 4 4).toNat
  let apos := (e.extractLsb' 0 4).toNat
  if h : dchr < 10 ∧ dpos < 13 ∧ achr < 10 ∧ apos < 13 then
    some ⟨⟨dchr, h.1⟩, ⟨dpos, h.2.1⟩, ⟨achr, h.2.2.1⟩, ⟨apos, h.2.2.2⟩⟩
  else none

/-- The BME word of an entry (R53). -/
def barEntryWord (e : BarEntry) : Bme :=
  BitVec.ofNat 4 e.dscChr ++ (BitVec.ofNat 4 e.dscPos ++
    (BitVec.ofNat 4 e.ascChr ++ BitVec.ofNat 4 e.ascPos))

/-- The entries of a list of BME words, if every one is legal (R53, R91). -/
def barEntriesOf : List Bme → Option (List BarEntry)
  | [] => some []
  | e :: es =>
    match barEntryOf e, barEntriesOf es with
    | some x, some xs => some (x :: xs)
    | _, _ => none

/-- The bar map that a list of BME words spells. A list that breaks R91 (a), (b) or (c) is refused
(U7). -/
def barMapOf (ws : List Bme) : Option BarMap :=
  match barEntriesOf ws with
  | some xs => if h : xs.length = 65 then some ⟨xs.toArray, by simpa using h⟩ else none
  | none => none

/-- The block's BAR_MAP: what ROM BARMAP spells. Were its words to break R91 (a), (b) or (c), this
definition would not be accepted by Lean, and there would be no model (U7; log entry 10). -/
def barMap : BarMap := (barMapOf barMapWords).get (by decide)

/-- The ascender bit of one bar (R56). -/
def ascBit (e : BarEntry) (chr : Vector Character 10) : Bool := charBit chr e.ascChr e.ascPos

/-- The descender bit of one bar (R56). -/
def dscBit (e : BarEntry) (chr : Vector Character 10) : Bool := charBit chr e.dscChr e.dscPos

/-- SELECT(i, CHR) for an entry (R92): asc * 2 + dsc. -/
def selectBar (e : BarEntry) (chr : Vector Character 10) : Bar :=
  barWord (ascBit e chr) (dscBit e chr)

/-- SELECTBARS(CHR) (R93). -/
def selectBars (m : BarMap) (chr : Vector Character 10) : Vector Bar 65 :=
  Vector.ofFn fun i => selectBar m[i] chr

/-- The wires with bar i holding a symbol (R92). -/
def withBar (i : BarIndex) (b : Bar) (s : State) : State :=
  withWires { s.dp with bar := s.dp.bar.set i b } s

/-- BAR_T (R92): bar i is 00, Tracker. -/
def execBarT (i : BarIndex) (s : State) : Answer := .next (withBar i 0#2 s)

/-- BAR_D (R92): bar i is 01, Descender. -/
def execBarD (i : BarIndex) (s : State) : Answer := .next (withBar i 1#2 s)

/-- BAR_A (R92): bar i is 10, Ascender. -/
def execBarA (i : BarIndex) (s : State) : Answer := .next (withBar i 2#2 s)

/-- BAR_F (R92): bar i is 11, Full. -/
def execBarF (i : BarIndex) (s : State) : Answer := .next (withBar i 3#2 s)

end Sys2Proof.Machine
end

