-- ==== Sys2Proof/Machine/Decomposer.lean ====
section
/-! DEFINITION. The mixed-radix decomposer and the fold (spec/42_decomposer.md), and the meanings of
TRUNCATE, DECOMPOSE, FOLD and NOFOLD. -/

namespace Sys2Proof.Machine

/-- RADIX_J (R26, R79). -/
def radixJ : Nat := 636

/-- RADIX (R26, R79). -/
def radix : Nat := 1365

/-- FOLD, the fold offset (R26, R80). -/
def foldOffset : Codeword := 659#11

/-- TRUNCATE (R78): P AND (2^102 - 1). -/
def truncateOf (p : Payload) : Data := payloadData p

/-- What is left of `data` after codewords 0 to n are taken off (R79): one division by 636, then n
divisions by 1365. -/
def quotient (data : Nat) : Nat → Nat
  | 0 => data / radixJ
  | n + 1 => quotient data n / radix

/-- W[i] as a number (R79). -/
def digit (data : Nat) : Nat → Nat
  | 0 => 2 * (data % radixJ)
  | i + 1 => if i < 8 then quotient data i % radix else quotient data i

/-- DECOMPOSE(data) (R79): the codewords before the fold, each in its 11-bit register (R81). -/
def decomposeOf (data : Data) : Vector Codeword 10 :=
  Vector.ofFn fun i => BitVec.ofNat 11 (digit data.toNat i)

/-- The codewords after FOLD (R80). -/
def foldOf (w9 : Codeword) : Codeword := w9 + foldOffset

/-- CW[0..9] from W[0..9] and the FCS (R79, R80). -/
def codewordsOf (f : Fcs) (w : Vector Codeword 10) : Vector Codeword 10 :=
  if foldSelected f then w.set 9 (foldOf w[9]) else w

/-- TRUNCATE (R78): the data wire takes bits 101:0 of the PAY word. -/
def execTruncate (p : Payload) (s : State) : Answer :=
  .next (withWires { s.dp with data := truncateOf p } s)

/-- DECOMPOSE (R79) of field DATA of the PAY word: W[0..9], and W[0..8] on to CW[0..8]. -/
def execDecompose (p : Payload) (s : State) : Answer :=
  let w := decomposeOf (payloadData p)
  .next (withWires { s.dp with w := w, cw := w.set 9 s.dp.cw[9] } s)

/-- FOLD (R80): CW[9] takes W[9] + 659. -/
def execFold (_ : Fcs) (s : State) : Answer :=
  .next (withWires { s.dp with cw := s.dp.cw.set 9 (foldOf s.dp.w[9]) } s)

/-- NOFOLD (R80): CW[9] takes W[9]. -/
def execNofold (_ : Fcs) (s : State) : Answer :=
  .next (withWires { s.dp with cw := s.dp.cw.set 9 s.dp.w[9] } s)

end Sys2Proof.Machine
end

