-- ==== Sys2Proof/Machine/Fcs.lean ====
section
/-! DEFINITION. The FCS generator (spec/41_fcs.md) and the meaning of FCSGEN. -/

namespace Sys2Proof.Machine

/-- FCS_INIT (R26, R72). -/
def fcsInit : Fcs := 0x7FF#11

/-- FCS_POLY (R26, R71). -/
def fcsPoly : BitVec 12 := 0xF35#12

/-- FCSSTEP(f, d) (R71): `d` is the shifting message, whose bit 10 is absorbed. It is at most 19
bits wide in every call, so 24 bits lose nothing (log entry 19). -/
def fcsStep (f : Fcs) (d : BitVec 24) : Fcs :=
  if (f.setWidth 24 ^^^ d) &&& 0x400#24 ≠ 0#24 then
    (((f.setWidth 12) <<< 1) ^^^ fcsPoly).setWidth 11
  else ((f.setWidth 12) <<< 1).setWidth 11

/-- The inner loop of FCSGEN: n times FCSSTEP, the message shifted left by 1 after each (R72). -/
def fcsRepeat : Nat → Fcs → BitVec 24 → Fcs
  | 0, f, _ => f
  | n + 1, f, d => fcsRepeat n (fcsStep f d) (d <<< 1)

/-- FCSGEN(P) (R72): 6 steps over byte 0 shifted left by 5, then 8 steps over each of bytes 1 to 12
shifted left by 3. -/
def fcsGen (p : Payload) : Fcs :=
  (List.range' 1 12).foldl
    (fun f j => fcsRepeat 8 f ((payloadByte p j).setWidth 24 <<< 3))
    (fcsRepeat 6 fcsInit ((payloadByte p 0).setWidth 24 <<< 5))

/-- FCSGEN (R72): the FCS wire takes the frame check sequence of the PAY word. -/
def execFcsgen (p : Payload) (s : State) : Answer :=
  .next (withWires { s.dp with fcs := fcsGen p } s)

end Sys2Proof.Machine
end

