-- ==== Sys2Proof/Machine/Mapper.lean ====
section
/-! DEFINITION. The pattern mapper (spec/43_pattern_mapper.md) and the meanings of LUT5, LUT2,
COMPLEMENT, PASS and REVERSE. -/

namespace Sys2Proof.Machine

/-- COMP_MASK (R26, R85). -/
def compMask : Character := 0x1FFF#13

/-- The character lookup (R84): ROM5 up to 1286, ROM2 above. -/
def lookup (c : Codeword) : Character :=
  if selectsRom5 c then rom5Read c else rom2Read c

/-- The complement within 13 bits (R85). -/
def complementOf (v : Character) : Character := v ^^^ compMask

/-- Q[i] from L[i] (R85). -/
def charOf (f : Fcs) (i : Fin 10) (v : Character) : Character :=
  if complementSelected f i then complementOf v else v

/-- The reversal (R86): element k is element 9 - k. -/
def reverseOf (q : Vector Character 10) : Vector Character 10 :=
  Vector.ofFn fun k => q[9 - k.val]

/-- MAPCHARS(CW, FCS) (R87). -/
def mapChars (cw : Vector Codeword 10) (f : Fcs) : Vector Character 10 :=
  reverseOf (Vector.ofFn fun i => charOf f i (lookup cw[i]))

/-- LUT5 (R84): L[i] takes ROM5[c]. -/
def execLut5 (i : CwIndex) (c : Codeword) (s : State) : Answer :=
  .next (withWires { s.dp with l := s.dp.l.set i (rom5Read c) } s)

/-- LUT2 (R84): L[i] takes ROM2[c - 1287]. -/
def execLut2 (i : CwIndex) (c : Codeword) (s : State) : Answer :=
  .next (withWires { s.dp with l := s.dp.l.set i (rom2Read c) } s)

/-- COMPLEMENT (R85): Q[i] takes L[i] XOR 0x1FFF. -/
def execComplement (i : CwIndex) (_ : Fcs) (s : State) : Answer :=
  .next (withWires { s.dp with q := s.dp.q.set i (complementOf s.dp.l[i]) } s)

/-- PASS (R85): Q[i] takes L[i]. -/
def execPass (i : CwIndex) (_ : Fcs) (s : State) : Answer :=
  .next (withWires { s.dp with q := s.dp.q.set i s.dp.l[i] } s)

/-- REVERSE (R86): CHR[k] takes Q[9 - k]. -/
def execReverse (_ : Character) (s : State) : Answer :=
  .next (withWires { s.dp with chr := reverseOf s.dp.q } s)

end Sys2Proof.Machine
end

