-- ==== Sys2Proof/Machine/Encode.lean ====
section
/-! DEFINITION. Encode, the function an ENCODE computes (R95): the four units in their fixed order
(R2), total on every payload (R3). -/

namespace Sys2Proof.Machine

/-- Encode(P) with a given bar map (R95). -/
def encodeWith (m : BarMap) (p : Payload) : Results :=
  let f := fcsGen p
  let cw := codewordsOf f (decomposeOf (truncateOf p))
  let chr := mapChars cw f
  ⟨f, cw, chr, selectBars m chr⟩

/-- Encode(P) (R95) with the block's BAR_MAP. -/
def encodeOf (p : Payload) : Results := encodeWith barMap p

end Sys2Proof.Machine
end

