-- ==== Sys2Proof/Machine/Command.lean ====
section
/-! DEFINITION. The host's commands (spec/45_encode_command.md, spec/70_reset_and_hazards.md): the
meanings of RESET, ENCODE, ENCODE_IGNORED and NOP at a rising edge, in the cases of R102. -/

namespace Sys2Proof.Machine

/-- A busy edge (R102 cases 3 and 4): START and PAYLOAD_IN take no part (R98, R100). -/
def busyEdge (s : State) : Answer := busyEdgeWith encodeOf s

/-- An edge with RST = 0 and START = 1: an ENCODE request, accepted if BUSY = 0 and ignored if
BUSY = 1 (R96). -/
def requestEdge (payload : Payload) (s : State) : Answer :=
  if s.busy then busyEdge s else .next (acceptAction payload s)

/-- RESET (R118, R102 case 1): START, PAYLOAD_IN and the state before the edge are any. -/
def execReset (_ : Bool) (_ : Payload) (s : State) : Answer :=
  .next (resetAction s)

/-- ENCODE (R96, R97): the row of an ENCODE request in state BUSY = 0. The word is the same as
ENCODE_IGNORED's, so in state BUSY = 1 it acts as that row (R96, R100; log entry 12). -/
def execEncode (payload : Payload) (s : State) : Answer := requestEdge payload s

/-- ENCODE_IGNORED (R96, R100): the row of an ENCODE request in state BUSY = 1, where only R98 or
R99 applies. In state BUSY = 0 the same word is accepted (R96; log entry 12). -/
def execEncodeIgnored (payload : Payload) (s : State) : Answer := requestEdge payload s

/-- NOP: RST = 0 and START = 0. A busy block counts or completes (R98, R99), an idle block keeps its
state (R101). -/
def execNop (_ : Payload) (s : State) : Answer :=
  if s.busy then busyEdge s else .next s

end Sys2Proof.Machine
end

