-- ==== Sys2Proof/Machine/Dispatch.lean ====
section
/-! DEFINITION. One arm per row of the opcode table: which meaning an instruction has. -/

namespace Sys2Proof.Machine

def exec (i : Instr) (s : State) : Host.Outcome State Fault Refusal :=
  match i with
  | .reset start payload => Sys2Proof.Machine.execReset start payload s
  | .encode payload => Sys2Proof.Machine.execEncode payload s
  | .encodeIgnored payload => Sys2Proof.Machine.execEncodeIgnored payload s
  | .nop payload => Sys2Proof.Machine.execNop payload s
  | .fcsgen p => Sys2Proof.Machine.execFcsgen p s
  | .truncate p => Sys2Proof.Machine.execTruncate p s
  | .decompose p => Sys2Proof.Machine.execDecompose p s
  | .fold f => Sys2Proof.Machine.execFold f s
  | .nofold f => Sys2Proof.Machine.execNofold f s
  | .lut5 j c => Sys2Proof.Machine.execLut5 j c s
  | .lut2 j c => Sys2Proof.Machine.execLut2 j c s
  | .complement j f => Sys2Proof.Machine.execComplement j f s
  | .pass j f => Sys2Proof.Machine.execPass j f s
  | .reverse w => Sys2Proof.Machine.execReverse w s
  | .barT j => Sys2Proof.Machine.execBarT j s
  | .barD j => Sys2Proof.Machine.execBarD j s
  | .barA j => Sys2Proof.Machine.execBarA j s
  | .barF j => Sys2Proof.Machine.execBarF j s

end Sys2Proof.Machine
end

