-- ==== Sys2Proof/Machine/Step.lean ====
section
/-! DEFINITION. One step: the next word of the feed is presented, decoded and executed. With an IN
word that is one rising edge of CLK (R102). -/

namespace Sys2Proof.Machine

/-- One step. The decoder sees BUSY before the edge (R48). -/
def step (s : State) : Host.Outcome State Fault Refusal :=
  match decode s.busy (fetch s) with
  | .ok i => exec i (advance s)
  | .error (.reservedCodeword c) => .refused (.reservedCodeword c)

/-- The state with a word of the opcode table put where the next step fetches: first in the feed
(log entry 14). A word that stands for nothing leaves the state as it is. -/
def State.withFetchWord (s : State) (nbits w : Nat) : State :=
  match slotOfTableWord nbits w with
  | some x => { s with feed := x :: s.feed }
  | none => s

end Sys2Proof.Machine
end

