-- ==== Sys2Proof/Machine/Ports.lean ====
section
/-! DEFINITION. The output ports (R14), each driven from its register, what a host read of one gives
(R28, R122), and the host's letters (R52). -/

namespace Sys2Proof.Machine

/-- What a host read of a result port gives: the register on the port, or a fault while the register
holds no value (R28, R122). -/
def readResult {w : Nat} (port : Port) : Option (BitVec w) → Except Fault (BitVec w)
  | some v => .ok v
  | none => .error (.readOfNoValue port)

/-- BUSY (R14, R20). -/
def busyOut (s : State) : BitVec 1 := BitVec.ofBool s.busy

/-- DONE (R14, R21). -/
def doneOut (s : State) : BitVec 1 := BitVec.ofBool s.done

/-- FCS_OUT (R14). -/
def fcsOut (s : State) : Except Fault (BitVec 11) := readResult .fcsOut s.fcs

/-- CW_OUT: CW[i] in bits 11i+10 down to 11i (R14). -/
def cwOut (s : State) : Except Fault (BitVec 110) := readResult .cwOut (s.cw.map packPort)

/-- CHR_OUT: CHR[k] in bits 13k+12 down to 13k (R14). -/
def chrOut (s : State) : Except Fault (BitVec 130) := readResult .chrOut (s.chr.map packPort)

/-- BARS_OUT: BAR[i] in bits 2i+1 down to 2i (R14). -/
def barsOut (s : State) : Except Fault (BitVec 130) := readResult .barsOut (s.bar.map packPort)

/-- A host read of any port, as one whole value (R41). -/
def readPort (s : State) : (port : Port) → Except Fault (BitVec port.width)
  | .busy => .ok (busyOut s)
  | .done => .ok (doneOut s)
  | .fcsOut => fcsOut s
  | .cwOut => cwOut s
  | .chrOut => chrOut s
  | .barsOut => barsOut s

/-- The four visual bar types (R51). -/
inductive Symbol where
  | tracker | descender | ascender | full
  deriving DecidableEq, Repr

/-- The symbol of a BAR word (R51). -/
def symbolOf (b : Bar) : Symbol :=
  if b = 0#2 then .tracker
  else if b = 1#2 then .descender
  else if b = 2#2 then .ascender
  else .full

/-- The host letter of a symbol (R51, R52). -/
def letterOf : Symbol → Char
  | .tracker => 'T'
  | .descender => 'D'
  | .ascender => 'A'
  | .full => 'F'

/-- The host's 65 letters, bar 0 first (R52). -/
def lettersOf (bar : Vector Bar 65) : List Char := bar.toList.map fun b => letterOf (symbolOf b)

end Sys2Proof.Machine
end

