-- ==== Sys2Proof/Machine/Contract.lean ====
section
/-! DEFINITION. The host's side of DOC's entry point, which the block does not implement: the merge
of tracking number and routing code into a payload (R8) and the input checks the host makes before
it drives START (R108). -/

namespace Sys2Proof.Machine

/-- DOC's software errors, raised by the host (R108). -/
inductive HostError where
  | inputFormat | parse
  deriving DecidableEq, Repr

/-- The value of a decimal digit string, the most significant digit first. -/
def decimalOf (ds : List (Fin 10)) : Nat := ds.foldl (fun n d => 10 * n + d.val) 0

/-- The routing offset (R8); a routing code has 0, 5, 9 or 11 digits. -/
def routingOffset (r : List (Fin 10)) : Option Nat :=
  if r.length = 0 then some 0
  else if r.length = 5 then some (decimalOf r + 1)
  else if r.length = 9 then some (decimalOf r + 100001)
  else if r.length = 11 then some (decimalOf r + 1000100001)
  else none

/-- The merge of R8: the offset, times 10 plus t[0], times 5 plus t[1], times 10^18 plus the value
of t[2..19]. -/
def mergeOf (t r : List (Fin 10)) : Option Nat :=
  match t, routingOffset r with
  | t0 :: t1 :: tail, some off =>
    if tail.length = 18 then
      some (((off * 10 + t0.val) * 5 + t1.val) * 10 ^ 18 + decimalOf tail)
    else none
  | _, _ => none

/-- The payload a conforming host puts on PAYLOAD_IN (R8). -/
def payloadOfDigits (t r : List (Fin 10)) : Option Payload :=
  (mergeOf t r).map (BitVec.ofNat 104)

/-- The value of a decimal digit character. -/
def digitOfChar (c : Char) : Option (Fin 10) :=
  if h : 48 ≤ c.toNat ∧ c.toNat < 58 then some ⟨c.toNat - 48, by omega⟩ else none

/-- The digits of a string, if every character is one. -/
def digitsOf : List Char → Option (List (Fin 10))
  | [] => some []
  | c :: cs =>
    match digitOfChar c, digitsOf cs with
    | some d, some ds => some (d :: ds)
    | _, _ => none

/-- The value of a numeric string; a non-digit character is a ParseError (R108). -/
def decimalOfString (cs : List Char) : Except HostError Nat :=
  match digitsOf cs with
  | some ds => .ok (decimalOf ds)
  | none => .error .parse

/-- The host's input check (R108): 20 digits of tracking number, then a routing code of 0, 5, 9 or
11 digits. -/
def checkInput (cs : List Char) : Except HostError (List (Fin 10) × List (Fin 10)) :=
  match digitsOf (cs.take 20), digitsOf (cs.drop 20) with
  | some t, some r =>
    if t.length = 20 ∧ (routingOffset r).isSome then .ok (t, r) else .error .inputFormat
  | _, _ => .error .inputFormat

/-- The payload of an input string, or the host's error; the host does not drive START for an input
that fails (R108). -/
def payloadOfString (cs : List Char) : Except HostError Payload :=
  match checkInput cs with
  | .ok (t, r) =>
    match payloadOfDigits t r with
    | some p => .ok p
    | none => .error .inputFormat
  | .error e => .error e

/-- The bound 659 * 636 * 1365^8 above which a payload is out of contract (R10, R59). -/
def contractBound : Nat := 659 * (636 * 1365 ^ 8)

/-- A payload of the host's contract (R10): bits 103:102 zero and the value below the bound. -/
def inContract (p : Payload) : Bool := decide (p.toNat < contractBound)

end Sys2Proof.Machine
end

