-- ==== Sys2Proof/Machine/HostScript.lean ====
section
/-! DEFINITION. The host-script notation (R62, R63): statements, the IN words each drives, what each
does to the block, and the text of a line. It adds nothing to the block (D19). -/

namespace Sys2Proof.Machine

/-- The statements of R62; `nop n` is `NOP <n>`, and `NOP` is `nop 1`. -/
inductive Stmt where
  | reset
  | encode (payload : Payload)
  | nop (n : Nat)
  | wait
  | expect (port : Port) (value : Nat)
  deriving DecidableEq, Repr

/-- A line of a script: a statement or a pseudo-statement of R63. -/
inductive ScriptLine where
  | stmt (x : Stmt)
  | encodeWait (payload : Payload)
  | readAll
  deriving DecidableEq, Repr

/-- The IN words a statement drives, whatever the state (R62). WAIT's depend on DONE: see runWait. -/
def Stmt.words : Stmt → List InWord
  | .reset => [inWord true false 0]
  | .encode payload => [inWord false true payload]
  | .nop n => List.replicate n (inWord false false 0)
  | .wait => []
  | .expect _ _ => []

/-- The statements a line stands for (R63); READ_ALL is one EXPECT for each result port, with the
values given here. -/
def ScriptLine.expand (fcs cw chr bars : Nat) : ScriptLine → List Stmt
  | .stmt x => [x]
  | .encodeWait payload => [.encode payload, .wait]
  | .readAll =>
    [.expect .fcsOut fcs, .expect .cwOut cw, .expect .chrOut chr, .expect .barsOut bars]

/-- One edge with the given IN word. -/
def edge (w : InWord) (s : State) : Answer := step { s with feed := .cmd w :: s.feed }

/-- One edge for each of the given IN words. -/
def drive : List InWord → State → Answer
  | [], s => .next s
  | w :: ws, s =>
    match edge w s with
    | .next t => drive ws t
    | .fault r => .fault r
    | .refused r => .refused r

/-- WAIT (R62): idle edges until DONE = 1 is seen before an edge. CNT edges are enough while
BUSY = 1; with BUSY = 0 and DONE = 0 it never ends (R101; log entry 17). -/
def runWait : Nat → State → Answer
  | n, s =>
    if s.done then .next s
    else if s.busy then
      match n with
      | 0 => .fault .counterZero
      | k + 1 =>
        match edge (inWord false false 0) s with
        | .next t => runWait k t
        | .fault r => .fault r
        | .refused r => .refused r
    else .fault .waitNeverEnds

/-- EXPECT (R62): a host check of a port in the current cycle; no edge passes. -/
def runExpect (port : Port) (value : Nat) (s : State) : Answer :=
  match readPort s port with
  | .ok v => if v.toNat = value then .next s else .fault (.expectMismatch port)
  | .error e => .fault e

/-- What a statement does (R62). -/
def runStmt : Stmt → State → Answer
  | .reset, s => drive (Stmt.words .reset) s
  | .encode payload, s => drive (Stmt.words (.encode payload)) s
  | .nop n, s => drive (Stmt.words (.nop n)) s
  | .wait, s => runWait s.cnt s
  | .expect port value, s => runExpect port value s

/-- What a script does: its statements in order. -/
def runScript : List Stmt → State → Answer
  | [], s => .next s
  | x :: xs, s =>
    match runStmt x s with
    | .next t => runScript xs t
    | .fault r => .fault r
    | .refused r => .refused r

/-- The value of a hexadecimal digit character. -/
def hexDigit (c : Char) : Option Nat :=
  let n := c.toNat
  if 48 ≤ n ∧ n < 58 then some (n - 48)
  else if 65 ≤ n ∧ n < 71 then some (n - 55)
  else if 97 ≤ n ∧ n < 103 then some (n - 87)
  else none

/-- The number a string of digits spells in a base of at most 16, continuing from `acc`. -/
def numberFrom (base : Nat) (acc : Nat) : List Char → Option Nat
  | [] => some acc
  | c :: cs =>
    match hexDigit c with
    | some d => if d < base then numberFrom base (base * acc + d) cs else none
    | none => none

/-- `<hex26>` (R62): exactly 26 hexadecimal digits, byte 0 first (R36). -/
def payloadOfHex (cs : List Char) : Option Payload :=
  if cs.length = 26 then (numberFrom 16 0 cs).map (BitVec.ofNat 104) else none

/-- A written value: decimal, or hexadecimal after 0x. -/
def valueOf : List Char → Option Nat
  | '0' :: 'x' :: c :: cs => numberFrom 16 0 (c :: cs)
  | c :: cs => numberFrom 10 0 (c :: cs)
  | [] => none

/-- The name of a port (R14). -/
def portOf (cs : List Char) : Option Port :=
  if cs = ['B', 'U', 'S', 'Y'] then some .busy
  else if cs = ['D', 'O', 'N', 'E'] then some .done
  else if cs = ['F', 'C', 'S', '_', 'O', 'U', 'T'] then some .fcsOut
  else if cs = ['C', 'W', '_', 'O', 'U', 'T'] then some .cwOut
  else if cs = ['C', 'H', 'R', '_', 'O', 'U', 'T'] then some .chrOut
  else if cs = ['B', 'A', 'R', 'S', '_', 'O', 'U', 'T'] then some .barsOut
  else none

/-- The words of a line up to its comment (R62); `cur` is the word being read, last letter first. -/
def wordsFrom (cur : List Char) : List Char → List (List Char)
  | [] => if cur = [] then [] else [cur.reverse]
  | c :: cs =>
    if c = ';' then (if cur = [] then [] else [cur.reverse])
    else if c = ' ' then
      (if cur = [] then wordsFrom [] cs else cur.reverse :: wordsFrom [] cs)
    else wordsFrom (c :: cur) cs

/-- The statement that the words of a line spell (R62, R63). -/
def lineOfWords : List (List Char) → Option ScriptLine
  | [k] =>
    if k = ['R', 'E', 'S', 'E', 'T'] then some (.stmt .reset)
    else if k = ['N', 'O', 'P'] then some (.stmt (.nop 1))
    else if k = ['W', 'A', 'I', 'T'] then some (.stmt .wait)
    else if k = ['R', 'E', 'A', 'D', '_', 'A', 'L', 'L'] then some .readAll
    else none
  | [k, x] =>
    if k = ['E', 'N', 'C', 'O', 'D', 'E'] then (payloadOfHex x).map fun p => .stmt (.encode p)
    else if k = ['N', 'O', 'P'] then (numberFrom 10 0 x).map fun n => .stmt (.nop n)
    else if k = ['E', 'N', 'C', 'O', 'D', 'E', '_', 'W', 'A', 'I', 'T'] then
      (payloadOfHex x).map ScriptLine.encodeWait
    else none
  | [k, name, eq, x] =>
    if k = ['E', 'X', 'P', 'E', 'C', 'T'] ∧ eq = ['='] then
      match portOf name, valueOf x with
      | some port, some v => some (.stmt (.expect port v))
      | _, _ => none
    else none
  | _ => none

/-- The statement of a line of text (R62): none for a line that is no statement. -/
def lineOf (cs : List Char) : Option ScriptLine := lineOfWords (wordsFrom [] cs)

end Sys2Proof.Machine
end

