-- ==== Sys2Proof/Machine/Pass.lean ====
section
/-! DEFINITION. One pass through the datapath by the operations of the operation map (R57), in the
order of R2: each unit is presented with the word that the units before it drive. The spec lets a
model compute Encode in one step (U6), and the completion edge does; this pass says what each row
of the opcode table contributes, and Certificates states that the two agree. -/

namespace Sys2Proof.Machine

/-- The stages of an ENCODE (R57, R95). -/
inductive Stage where
  | fcsgen | truncate | decompose | fold
  | lut (i : CwIndex) | comp (i : CwIndex)
  | reverse
  | bar (i : BarIndex)
  deriving DecidableEq, Repr

/-- The stages in order: the FCS generator, the decomposer, the mapper over codewords 0 to 9, the
reversal, the selector over bars 0 to 64 (R2, R87, R93). -/
def stages : List Stage :=
  [.fcsgen, .truncate, .decompose, .fold] ++
    ((List.finRange 10).flatMap fun i => [Stage.lut i, Stage.comp i]) ++
    [.reverse] ++ (List.finRange 65).map Stage.bar

/-- The word a stage is presented with for payload `p`, given the wires. -/
def stageWord (p : Payload) (d : Datapath) : Stage → Slot
  | .fcsgen => .fcsgen p
  | .truncate => .truncate p
  | .decompose => .decompose (d.data.setWidth 104)
  | .fold => .fold d.fcs
  | .lut i => .lut i d.cw[i]
  | .comp i => .comp i d.fcs
  | .reverse => .reverse d.q[(0 : Fin 10)]
  | .bar i => .bar i (selectBar barMap[i] d.chr)

/-- The given stages, one step each. -/
def passFrom (p : Payload) : List Stage → State → Answer
  | [], s => .next s
  | g :: gs, s =>
    match step { s with feed := stageWord p s.dp g :: s.feed } with
    | .next t => passFrom p gs t
    | .fault r => .fault r
    | .refused r => .refused r

/-- A whole pass for payload `p`. -/
def pass (p : Payload) (s : State) : Answer := passFrom p stages s

/-- The results that the wires carry. -/
def wireResults (d : Datapath) : Results := ⟨d.fcs, d.cw, d.chr, d.bar⟩

end Sys2Proof.Machine
end

