-- ==== Sys2Proof/Safety.lean ====
section
/-! DEFINITION. What a safe state of the block is, in the terms the statements use. -/

namespace Sys2Proof.Safety

open Machine

/-- Every result register holds no value (R28). -/
def noResults (s : State) : Prop :=
  s.fcs = none ∧ s.cw = none ∧ s.chr = none ∧ s.bar = none

/-- The result registers hold the results `r`. -/
def holdsResults (s : State) (r : Results) : Prop :=
  s.fcs = some r.fcs ∧ s.cw = some r.cw ∧ s.chr = some r.chr ∧ s.bar = some r.bar

/-- The handshake invariant: with DONE = 1 the results are Encode of the captured payload (R21, R29,
R106), with DONE = 0 they are ⊥ (R28, R29), and with BUSY = 1 DONE is 0, a payload is captured and
CNT is at least 1 (R22, R29, R97, R98). -/
def HandshakeInv (s : State) : Prop :=
  (s.done = true → ∃ p, s.p = some p ∧ holdsResults s (encodeOf p)) ∧
  (s.done = false → noResults s) ∧
  (s.busy = true → s.done = false ∧ s.p.isSome = true ∧ 1 ≤ s.cnt)

/-- While BUSY = 1 no more than ENC_LATENCY edges are left (R22, R98). -/
def LatencyBound (s : State) : Prop := s.busy = true → s.cnt ≤ Config.encLatency

/-- Everything still to be presented is an IN word of the host: no datapath operation in
isolation. -/
def hostOnly (s : State) : Prop := ∀ x ∈ s.feed, x.format = .inWord

/-- An IN word that does not end an ENCODE: RST = 0. -/
def rstLow (w : InWord) : Prop := inRst w = false

/-- An IN word of an idle host: RST = 0 and START = 0. -/
def idleInput (w : InWord) : Prop := inRst w = false ∧ inStart w = false

end Sys2Proof.Safety
end

