-- ==== Sys2Proof/Certificates/Slice0/Obligations.lean ====
section
/-! DEFINITION. The statements about the block, each a proposition that names the rule of spec/ it
formalises or rests on. -/

open Sys2Proof Sys2Proof.Machine Sys2Proof.Safety

/-! ## Encoding (R47 to R61) -/

/-- R48, R57, R60: every well-formed instruction, with every operand its encoding admits, is read
back from its word in the state its row names. -/
def Obligations.DecodeOfEncodeIsSame : Prop :=
  ∀ (busy : Bool) (i : Instr), i.wellFormed = true → i.allowedWhen busy = true →
    decode busy (encode i) = .ok i

/-- R48, R57, R60: a word that decodes is the word its instruction encodes to, and the instruction
is well-formed and its row's state condition holds, so no word has two readings. -/
def Obligations.EncodeOfDecodedIsSame : Prop :=
  ∀ (busy : Bool) (x : Slot) (i : Instr), decode busy x = .ok i →
    encode i = x ∧ i.wellFormed = true ∧ i.allowedWhen busy = true

/-- R48: the word with RST, START and PAYLOAD_IN at bits 105, 104 and 103:0 spells its row of the
command table, in priority order, and every 106-bit word is such a word. -/
def Obligations.CommandWordsFollowTable : Prop :=
  (∀ (busy rst start : Bool) (p : Payload) (w : InWord),
    w.toNat = rst.toNat * 2 ^ 105 + start.toNat * 2 ^ 104 + p.toNat →
    decode busy (.cmd w) = .ok
      (if rst then .reset start p
       else if start then (if busy then .encodeIgnored p else .encode p)
       else .nop p)) ∧
  ∀ w : InWord, ∃ (rst start : Bool) (p : Payload),
    w.toNat = rst.toNat * 2 ^ 105 + start.toNat * 2 ^ 104 + p.toNat

/-- Sanity: a few words written out from the opcode table and the host programs of
95_test_vectors.md. -/
def Obligations.SampleWordsDecode : Prop :=
  decode false (.cmd 0x200000000000000000000000000#106) = .ok (.reset false 0) ∧
  decode false (.cmd 0x1016907B2A24ABC16A2E5C004B1#106) =
    .ok (.encode 0x016907B2A24ABC16A2E5C004B1#104) ∧
  decode true (.cmd 0x13FBD723AB5D7EF61336687FFFF#106) =
    .ok (.encodeIgnored 0x3FBD723AB5D7EF61336687FFFF#104) ∧
  decode false (.cmd 0#106) = .ok (.nop 0) ∧
  decode false (.fold 0x751#11) = .ok (.fold 0x751#11) ∧
  decode false (.fold 0x051#11) = .ok (.nofold 0x051#11) ∧
  decode false (.lut 2 1294#11) = .ok (.lut2 2 1294#11) ∧
  decode false (.lut 0 602#11) = .ok (.lut5 0 602#11) ∧
  decode false (.comp 9 0x751#11) = .ok (.complement 9 0x751#11) ∧
  decode false (.comp 2 0x751#11) = .ok (.pass 2 0x751#11) ∧
  decode false (.bar 0 2#2) = .ok (.barA 0)

/-- R49, R54: a CW word of 0 to 1286 selects LUT5, of 1287 to 1364 LUT2; a word above 1364 is no
legal codeword and a step that is presented with it is refused by name. The refusal is the model's
choice (log entry 13). -/
def Obligations.CodewordWordsSelectLookup : Prop :=
  ∀ (busy : Bool) (i : CwIndex) (c : Codeword),
    (c.toNat ≤ 1286 → decode busy (.lut i c) = .ok (.lut5 i c)) ∧
    (1287 ≤ c.toNat ∧ c.toNat ≤ 1364 → decode busy (.lut i c) = .ok (.lut2 i c)) ∧
    (1365 ≤ c.toNat → ∀ (s : State) (rest : List Slot), s.feed = .lut i c :: rest →
      step s = .refused (.reservedCodeword c))

/-! ## The step (R102) -/

/-- A step runs the instruction that the presented word decodes to, with the word taken from the
feed. With an empty feed the host idles: the step is a NOP edge (the model's choice, log entry 1). -/
def Obligations.StepRunsDecodedInstruction : Prop :=
  (∀ (s : State) (x : Slot) (rest : List Slot) (i : Instr),
    s.feed = x :: rest → decode s.busy x = .ok i → step s = exec i { s with feed := rest }) ∧
  ∀ s : State, s.feed = [] → step s = exec (.nop 0) s

/-- R102: the five cases, in order, with the next state each gives; from a state that meets the
handshake invariant every IN word matches a case. CNT after a reset or a completion is some number
`c`, of which nothing is said (R22, R118, U3); `n` is the model's count of free values (log entry 6). -/
def Obligations.StepFollowsCaseTable : Prop :=
  ∀ (s : State) (w : InWord) (rest : List Slot), HandshakeInv s → s.feed = .cmd w :: rest →
    if inRst w = true then
      ∃ c n, step s = .next { s with
        feed := rest, busy := false, done := false, cnt := c
        p := none, fcs := none, cw := none, chr := none, bar := none, freeIdx := n }
    else if s.busy = false ∧ inStart w = true then
      step s = .next { s with
        feed := rest, busy := true, done := false, cnt := Config.encLatency
        p := some (inPayload w), fcs := none, cw := none, chr := none, bar := none }
    else if s.busy = true ∧ s.cnt = 1 then
      ∃ p c n, s.p = some p ∧ step s = .next { s with
        feed := rest, busy := false, done := true, cnt := c
        fcs := some (encodeOf p).fcs, cw := some (encodeOf p).cw
        chr := some (encodeOf p).chr, bar := some (encodeOf p).bar, freeIdx := n }
    else if s.busy = true ∧ 1 < s.cnt then
      step s = .next { s with feed := rest, cnt := s.cnt - 1 }
    else s.busy = false ∧ inStart w = false ∧ step s = .next { s with feed := rest }

/-! ## The commands (R96 to R101, R118) -/

/-- R118: a reset edge, whatever START, PAYLOAD_IN and the state before it, also in a busy state. CNT
is some number of which nothing is said; `n` is the model's count of free values (log entry 6). -/
def Obligations.ResetActionFromAnyState : Prop :=
  ∀ (start : Bool) (payload : Payload) (s : State), ∃ c n,
    exec (.reset start payload) s = .next { s with
      busy := false, done := false, cnt := c
      p := none, fcs := none, cw := none, chr := none, bar := none, freeIdx := n }

/-- R30: after a reset edge every register the table gives a value has that value, and so it is in
the state the model starts from. -/
def Obligations.ResetEdgeTakesResetValues : Prop :=
  (∀ (start : Bool) (payload : Payload) (s : State), ∃ t,
    exec (.reset start payload) s = .next t ∧ t.busy = false ∧ t.done = false ∧ t.p = none ∧
    noResults t) ∧
  State.reset.busy = false ∧ State.reset.done = false ∧ State.reset.p = none ∧
  noResults State.reset

/-- R97: an idle block accepts START. -/
def Obligations.EncodeAcceptedWhenIdle : Prop :=
  ∀ (payload : Payload) (s : State), s.busy = false →
    exec (.encode payload) s = .next { s with
      p := some payload, busy := true, done := false, cnt := Config.encLatency
      fcs := none, cw := none, chr := none, bar := none }

/-- R96: a START word is accepted if BUSY = 0 and ignored if BUSY = 1, whichever of its two rows
names it (log entry 12). -/
def Obligations.RequestDependsOnBusyAlone : Prop :=
  ∀ (payload other : Payload) (s : State),
    exec (.encodeIgnored payload) s = exec (.encode payload) s ∧
    (s.busy = false → exec (.encodeIgnored payload) s = .next { s with
      p := some payload, busy := true, done := false, cnt := Config.encLatency
      fcs := none, cw := none, chr := none, bar := none }) ∧
    (s.busy = true → exec (.encode payload) s = exec (.nop other) s)

/-- R98: a busy edge with CNT > 1 counts and changes nothing else, START and PAYLOAD_IN not being
read. -/
def Obligations.BusyEdgeCountsDown : Prop :=
  ∀ (payload : Payload) (s : State), s.busy = true → 1 < s.cnt →
    exec (.nop payload) s = .next { s with cnt := s.cnt - 1 } ∧
    exec (.encodeIgnored payload) s = .next { s with cnt := s.cnt - 1 }

/-- R99: the completion edge writes every result, BUSY and DONE, and START at it is ignored. CNT means
nothing from there on (R22, U3) and is some number of which nothing is said; `n` is the model's count
of free values (log entry 6). -/
def Obligations.CompletionWritesAllResults : Prop :=
  ∀ (payload captured : Payload) (s : State), s.busy = true → s.cnt = 1 → s.p = some captured →
    ∃ c n,
      let t : State := { s with
        busy := false, done := true, cnt := c
        fcs := some (encodeOf captured).fcs, cw := some (encodeOf captured).cw
        chr := some (encodeOf captured).chr, bar := some (encodeOf captured).bar, freeIdx := n }
      exec (.nop payload) s = .next t ∧ exec (.encodeIgnored payload) s = .next t

/-- R100: while BUSY = 1 a START word does what any other word with RST = 0 does at that edge. -/
def Obligations.StartWhileBusyHasNoEffect : Prop :=
  ∀ (s : State) (w w' : InWord) (rest : List Slot), s.busy = true →
    inRst w = false → inStart w = true → inRst w' = false → inStart w' = false →
    step { s with feed := .cmd w :: rest } = step { s with feed := .cmd w' :: rest }

/-- R101: an idle edge changes no state. -/
def Obligations.IdleEdgeKeepsState : Prop :=
  ∀ (payload : Payload) (s : State), s.busy = false → exec (.nop payload) s = .next s

/-! ## The FCS generator (R71 to R77) -/

/-- R71: the closed form of one step, with the test on bit 10 alone (C4). -/
def Obligations.FcsStepClosedForm : Prop :=
  ∀ (f : Fcs) (d : BitVec 24),
    fcsStep f d = (f <<< 1) ^^^ (if f.getLsbD 10 != d.getLsbD 10 then 0x735#11 else 0#11)

/-- R72, R73: FCSGEN puts on its wire the bit-serial CRC of the bits 101 down to 0 of the payload,
started from 0x7FF, and changes nothing else.
The wires are the model's own (log entry 2). -/
def Obligations.FcsgenGivesSerialCrc : Prop :=
  ∀ (p : Payload) (s : State),
    exec (.fcsgen p) s = .next { s with dp := { s.dp with
      fcs := (List.range 102).foldl
        (fun (f : Fcs) k =>
          (f <<< 1) ^^^ (if f.getLsbD 10 != p.getLsbD (101 - k) then 0x735#11 else 0#11))
        0x7FF#11 } }

/-- R74: the FCS ignores bits 103:102. -/
def Obligations.FcsIgnoresTopTwoBits : Prop :=
  ∀ p : Payload, fcsGen p = fcsGen (p &&& BitVec.ofNat 104 (2 ^ 102 - 1))

/-- R77: the affine law. -/
def Obligations.FcsAffineLaw : Prop :=
  ∀ a b : Payload, fcsGen (a ^^^ b) = fcsGen a ^^^ fcsGen b ^^^ 0x6E0#11

/-- R77: the corner values. -/
def Obligations.FcsCornerValues : Prop :=
  fcsGen 0 = 0x6E0#11 ∧ fcsGen 1 = 0x1D5#11 ∧ fcsGen 2 = 0x7BF#11 ∧
  fcsGen (BitVec.ofNat 104 (2 ^ 101)) = 0x311#11 ∧
  fcsGen (BitVec.ofNat 104 (2 ^ 102 - 1)) = 0x7BE#11 ∧
  fcsGen (BitVec.ofNat 104 (2 ^ 104 - 1)) = 0x7BE#11

/-! ## The decomposer and the fold (R78 to R83) -/

/-- R78: TRUNCATE puts the payload modulo 2^102 on its wire and changes nothing else.
The wires are the model's own (log entry 2). -/
def Obligations.TruncateKeepsLowBits : Prop :=
  ∀ (p : Payload) (s : State), ∃ d : Data, d.toNat = p.toNat % 2 ^ 102 ∧
    exec (.truncate p) s = .next { s with dp := { s.dp with data := d } }

/-- R79: DECOMPOSE puts the mixed-radix digits of its data on W[0..9], exactly, hands W[0..8] on to
CW[0..8], and changes nothing else.
The wires are the model's own (log entry 2). -/
def Obligations.DecomposeGivesMixedRadixDigits : Prop :=
  ∀ (p : Payload) (s : State), ∃ w : Vector Codeword 10,
    exec (.decompose p) s =
      .next { s with dp := { s.dp with w := w, cw := w.set 9 s.dp.cw[9] } } ∧
    (w[0]).toNat = 2 * (p.toNat % 2 ^ 102 % 636) ∧
    (∀ (i : Nat) (h : i < 8),
      (w[i + 1]'(by omega)).toNat = p.toNat % 2 ^ 102 / 636 / 1365 ^ i % 1365) ∧
    (w[9]).toNat = p.toNat % 2 ^ 102 / 636 / 1365 ^ 8

/-- R80: FCS bit 10 selects FOLD or NOFOLD; FOLD adds 659 to W[9], NOFOLD hands it on; nothing else
changes. The sum is exact for every W[9] that leaves it in 11 bits, so for every W[9] of an
ENCODE, which is at most 661 (R81).
The wires are the model's own (log entry 2). -/
def Obligations.FoldAddsOffsetByFcsBitTen : Prop :=
  ∀ (busy : Bool) (f : Fcs) (s : State),
    (f.getLsbD 10 = true → (s.dp.w[9]).toNat + 659 < 2048 →
      decode busy (.fold f) = .ok (.fold f) ∧
      ∃ c : Codeword, c.toNat = (s.dp.w[9]).toNat + 659 ∧
        exec (.fold f) s = .next { s with dp := { s.dp with cw := s.dp.cw.set 9 c } }) ∧
    (f.getLsbD 10 = false →
      decode busy (.fold f) = .ok (.nofold f) ∧
      exec (.nofold f) s = .next { s with dp := { s.dp with cw := s.dp.cw.set 9 s.dp.w[9] } })

/-- R81: the codeword ranges for every payload, and the range of codeword 9 in contract (C1, C2). -/
def Obligations.CodewordRanges : Prop :=
  ∀ p : Payload,
    ((encodeOf p).cw[0]).toNat % 2 = 0 ∧ ((encodeOf p).cw[0]).toNat ≤ 1270 ∧
    (∀ (i : Nat) (h : i < 8), ((encodeOf p).cw[i + 1]'(by omega)).toNat ≤ 1364) ∧
    ((encodeOf p).cw[9]).toNat ≤ 1320 ∧
    (inContract p = true → ((encodeOf p).cw[9]).toNat ≤ 1317)

/-- R82: the payload value is recovered from the codewords and FCS bit 10. -/
def Obligations.PayloadFromCodewords : Prop :=
  ∀ p : Payload,
    let r := encodeOf p
    let w9 := (r.cw[9]).toNat - (if r.fcs.getLsbD 10 then 659 else 0)
    p.toNat % 2 ^ 102 = (r.cw[0]).toNat / 2 + 636 *
      ([r.cw[1], r.cw[2], r.cw[3], r.cw[4], r.cw[5], r.cw[6], r.cw[7], r.cw[8]].foldr
        (fun c n => c.toNat + 1365 * n) w9)

/-- R82: every legal digit vector with a value below 2^102 is the decomposition of that value. -/
def Obligations.EveryDigitVectorIsReached : Prop :=
  ∀ w : Vector Codeword 10,
    let v := (w[0]).toNat / 2 + 636 *
      ([w[1], w[2], w[3], w[4], w[5], w[6], w[7], w[8]].foldr
        (fun c n => c.toNat + 1365 * n) (w[9]).toNat)
    (w[0]).toNat % 2 = 0 → (w[0]).toNat ≤ 1270 →
    (∀ (i : Nat) (h : i < 8), (w[i + 1]'(by omega)).toNat ≤ 1364) → (w[9]).toNat ≤ 661 →
    v < 2 ^ 102 → decomposeOf (BitVec.ofNat 102 v) = w

/-! ## The ROMs (R64 to R70) -/

/-- R64: the bit reversal bit by bit, its two laws, and its two examples. -/
def Obligations.BitReversalLaws : Prop :=
  (∀ v : Character, (∀ pos, pos < 13 → (rev13 v).getLsbD pos = v.getLsbD (12 - pos)) ∧
    rev13 (rev13 v) = v ∧ popcount (rev13 v) = popcount v) ∧
  rev13 0x0003#13 = 0x1800#13 ∧ rev13 0x1001#13 = 0x1001#13

/-- R66: the ROM contents are those of the generator. -/
def Obligations.RomContentsAreGenerated : Prop :=
  gen 2 78 = rom2.map some ∧ gen 5 1287 = rom5.map some

/-- R67: pairs from the low end, each smaller member before its reversal, then the self-symmetric
entries in decreasing order. -/
def Obligations.RomPairStructure : Prop :=
  ∀ (rom : List Character) (pairs size : Nat),
    (rom = rom2 ∧ pairs = 36 ∧ size = 78) ∨ (rom = rom5 ∧ pairs = 636 ∧ size = 1287) →
    rom.length = size ∧
    (∀ j < pairs, ∃ v, rom[2 * j]? = some v ∧ rom[2 * j + 1]? = some (rev13 v) ∧
      v.toNat < (rev13 v).toNat) ∧
    (∀ k, 2 * pairs ≤ k → k < size → ∃ v, rom[k]? = some v ∧ rev13 v = v ∧
      ∀ u, rom[k + 1]? = some u → u.toNat < v.toNat)

/-- R68: the sizes, the population counts, no duplicate, and the reversal of every entry in the same
ROM exactly once; (e) is the type of an entry. -/
def Obligations.RomProperties : Prop :=
  (rom2.length = 78 ∧ rom5.length = 1287) ∧
  ((∀ v ∈ rom2, popcount v = 2) ∧ ∀ v ∈ rom5, popcount v = 5) ∧
  (rom2.Nodup ∧ rom5.Nodup) ∧
  ((∀ v ∈ rom2, rev13 v ≠ v → rom2.count (rev13 v) = 1) ∧
    ∀ v ∈ rom5, rev13 v ≠ v → rom5.count (rev13 v) = 1) ∧
  ∀ v ∈ rom2 ++ rom5, v.toNat < 8192

/-! ## The pattern mapper (R84 to R88) -/

/-- R84: a codeword up to 1286 selects LUT5, which puts ROM5[c] on L[i]; a codeword 1287 to 1364
selects LUT2, which puts ROM2[c - 1287] there; nothing else changes.
The wires are the model's own (log entry 2). -/
def Obligations.LookupReadsRomEntry : Prop :=
  ∀ (busy : Bool) (i : CwIndex) (c : Codeword) (s : State),
    (c.toNat ≤ 1286 → decode busy (.lut i c) = .ok (.lut5 i c) ∧
      ∃ v, rom5[c.toNat]? = some v ∧
        exec (.lut5 i c) s = .next { s with dp := { s.dp with l := s.dp.l.set i v } }) ∧
    (1287 ≤ c.toNat → c.toNat ≤ 1364 → decode busy (.lut i c) = .ok (.lut2 i c) ∧
      ∃ v, rom2[c.toNat - 1287]? = some v ∧
        exec (.lut2 i c) s = .next { s with dp := { s.dp with l := s.dp.l.set i v } })

/-- R85: FCS bit 9 - i selects COMPLEMENT, which puts L[i] XOR 0x1FFF on Q[i], or PASS, which puts
L[i] there; nothing else changes.
The wires are the model's own (log entry 2). -/
def Obligations.ComplementByFcsBit : Prop :=
  ∀ (busy : Bool) (i : CwIndex) (f : Fcs) (s : State),
    (f.getLsbD (9 - i.val) = true →
      decode busy (.comp i f) = .ok (.complement i f) ∧
      exec (.complement i f) s =
        .next { s with dp := { s.dp with q := s.dp.q.set i (s.dp.l[i] ^^^ 0x1FFF#13) } }) ∧
    (f.getLsbD (9 - i.val) = false →
      decode busy (.comp i f) = .ok (.pass i f) ∧
      exec (.pass i f) s = .next { s with dp := { s.dp with q := s.dp.q.set i s.dp.l[i] } })

/-- R86: REVERSE puts Q[9 - k] on CHR[k] for each k, and changes nothing else.
The wires are the model's own (log entry 2). -/
def Obligations.ReverseTurnsOrderRound : Prop :=
  ∀ (w : Character) (s : State), ∃ v : Vector Character 10,
    exec (.reverse w) s = .next { s with dp := { s.dp with chr := v } } ∧
    ∀ (k : Nat) (h : k < 10), v[k] = s.dp.q[9 - k]

/-- R55, R87: character k comes from codeword 9 - k and is complemented by FCS bit k. -/
def Obligations.CharacterOfCodeword : Prop :=
  ∀ (cw : Vector Codeword 10) (f : Fcs) (k : Nat) (h : k < 10),
    (mapChars cw f)[k] =
      (if f.getLsbD k then lookup cw[9 - k] ^^^ 0x1FFF#13 else lookup cw[9 - k])

/-- R88: for every payload, the population count of character k says which ROM it came from and
whether it was complemented. -/
def Obligations.CharacterPopcounts : Prop :=
  ∀ (p : Payload) (k : Nat) (h : k < 10),
    let r := encodeOf p
    popcount r.chr[k] =
      (if (r.cw[9 - k]).toNat ≤ 1286 then (if r.fcs.getLsbD k then 8 else 5)
       else (if r.fcs.getLsbD k then 11 else 2))

/-! ## The bar selector (R89 to R94) -/

/-- R51, R57, R92: a BAR word selects its row, which puts that word on bar i and changes nothing
else.
The wires are the model's own (log entry 2). -/
def Obligations.BarRowsWriteTheirSymbol : Prop :=
  ∀ (busy : Bool) (i : BarIndex) (s : State),
    (decode busy (.bar i 0#2) = .ok (.barT i) ∧
      exec (.barT i) s = .next { s with dp := { s.dp with bar := s.dp.bar.set i 0#2 } }) ∧
    (decode busy (.bar i 1#2) = .ok (.barD i) ∧
      exec (.barD i) s = .next { s with dp := { s.dp with bar := s.dp.bar.set i 1#2 } }) ∧
    (decode busy (.bar i 2#2) = .ok (.barA i) ∧
      exec (.barA i) s = .next { s with dp := { s.dp with bar := s.dp.bar.set i 2#2 } }) ∧
    (decode busy (.bar i 3#2) = .ok (.barF i) ∧
      exec (.barF i) s = .next { s with dp := { s.dp with bar := s.dp.bar.set i 3#2 } })

/-- R92: for every bar map, bar i is asc * 2 + dsc, each a bit of a character at the place its entry
names. -/
def Obligations.SelectGivesAscTwiceDsc : Prop :=
  ∀ (m : BarMap) (chr : Vector Character 10) (i : BarIndex),
    ((selectBars m chr)[i]).toNat =
      (chr[m[i].ascChr]).toNat / 2 ^ m[i].ascPos.val % 2 * 2 +
        (chr[m[i].dscChr]).toNat / 2 ^ m[i].dscPos.val % 2

/-- R53, R91: a BME word with a reserved field is refused and any other is read field by field; an
entry's own word reads back as the entry; a list that spells a bar map has 65 words. -/
def Obligations.BarMapWordsReadOrRefused : Prop :=
  (∀ e : Bme,
    (barEntryOf e = none ↔
      10 ≤ e.toNat / 2 ^ 12 ∨ 13 ≤ e.toNat / 2 ^ 8 % 16 ∨
      10 ≤ e.toNat / 2 ^ 4 % 16 ∨ 13 ≤ e.toNat % 16) ∧
    ∀ x, barEntryOf e = some x →
      x.dscChr.val = e.toNat / 2 ^ 12 ∧ x.dscPos.val = e.toNat / 2 ^ 8 % 16 ∧
      x.ascChr.val = e.toNat / 2 ^ 4 % 16 ∧ x.ascPos.val = e.toNat % 16) ∧
  (∀ x : BarEntry, barEntryOf (barEntryWord x) = some x) ∧
  ∀ (ws : List Bme) (m : BarMap), barMapOf ws = some m →
    ws.length = 65 ∧ ∀ i : BarIndex, ws[i.val]?.bind barEntryOf = some m[i]

/-- R91 (d): with the default bar map (general knowledge, log entry 9) every bit of every character
drives exactly one bar half. -/
def Obligations.EachCharacterBitDrivesOneBarHalf : Prop :=
  ∀ (k : Fin 10) (pos : Fin 13),
    ((List.finRange 65).countP fun i => barMap[i].dscChr = k ∧ barMap[i].dscPos = pos) +
    ((List.finRange 65).countP fun i => barMap[i].ascChr = k ∧ barMap[i].ascPos = pos) = 1

/-- R94: with the default bar map (log entry 9) the bars determine the characters. -/
def Obligations.BarsDetermineCharacters : Prop :=
  ∀ c c' : Vector Character 10, selectBars barMap c = selectBars barMap c' → c = c'

/-! ## Encode as a whole (R2, R3, R58, R95) -/

/-- R58: payloads that differ only in bits 103:102 give the same results. -/
def Obligations.EncodeIgnoresTopTwoBits : Prop :=
  ∀ p q : Payload, p.toNat % 2 ^ 102 = q.toNat % 2 ^ 102 → encodeOf p = encodeOf q

/-- R2, R57, R95: presenting the units with their words in order, from any state and any values on
the wires, runs the operations of the opcode table to the results of Encode, and touches nothing but
the wires.
The wires are the model's own (log entry 2). -/
def Obligations.DatapathPassComputesEncode : Prop :=
  ∀ (p : Payload) (s : State), ∃ d : Datapath,
    pass p s = .next { s with dp := d } ∧ wireResults d = encodeOf p

/-- 95_test_vectors.md: V3, V4, E1 and E5 in full. The bars rest on the default bar map (log entry
9). -/
def Obligations.EncodeExampleVectors : Prop :=
  (let r := encodeOf 0x000202BDC097711204D21804B1#104
   r.fcs = 0x606#11 ∧ packPort r.cw = 0x14986E8B354C6319D3AC7529AC02#110 ∧
   packPort r.chr = 0x29DC0841D08E8A53019A08807FBE0F154#130 ∧
   packPort r.bar = 0x2CF4662474112265EA48CCA860B007836#130) ∧
  (let r := encodeOf 0x016907B2A24ABC16A2E5C004B1#104
   r.fcs = 0x751#11 ∧ packPort r.cw = 0x150B134BEFF9AE81366143811A5A#110 ∧
   packPort r.chr = 0x365723F9005F1AE806DD58323910B8DCB#130 ∧
   packPort r.bar = 0x26936AD805FC566E4116A51CA6864DF1A#130) ∧
  (let r := encodeOf 0#104
   r.fcs = 0x6E0#11 ∧ packPort r.cw = 0x1498000000000000000000000000#110 ∧
   packPort r.chr = 0x3FC001FFF07F83FC001F00F807C03F154#130 ∧
   packPort r.bar = 0x2463221473F87B47674E89A5C0B38CAD2#130) ∧
  (let r := encodeOf 0x3FFFFFFFFFFFFFFFFFFFFFFFFF#104
   r.fcs = 0x7BE#11 ∧ packPort r.cw = 0x2942C21C49BA5F2E85A0FBA4384E#110 ∧
   packPort r.chr = 0x3E626DEABD18B32F8DF4D7378E73CA840#130 ∧
   packPort r.bar = 0x2BB91CC6F0EFCAD2C135E3938959FFB50#130)

/-- R82, R88, R94 and the range of R81 together: with the default bar map (log entry 9), the printed
bars of two in-contract payloads agree only if the payloads do. -/
def Obligations.InContractBarsDeterminePayload : Prop :=
  ∀ p q : Payload, inContract p = true → inContract q = true →
    (encodeOf p).bar = (encodeOf q).bar → p = q

/-! ## The handshake as a whole (R20 to R29, R103 to R107, R126) -/

/-- R21, R22, R28, R29: every step keeps the handshake invariant, and the bound on CNT. -/
def Obligations.StepKeepsHandshakeInv : Prop :=
  ∀ s t : State, step s = .next t →
    (HandshakeInv s → HandshakeInv t) ∧ (LatencyBound s → LatencyBound t)

/-- R29, R30: the state after reset meets the handshake invariant and the bound on CNT. -/
def Obligations.ResetMeetsHandshakeInv : Prop := HandshakeInv State.reset ∧ LatencyBound State.reset

/-- R60, R107: from a state that meets the invariant, with nothing but IN words of the host to come, a
run of any length gives a next state that meets it: no word is illegal and nothing faults. -/
def Obligations.HostRunNeverFaults : Prop :=
  ∀ (s : State) (k : Nat), HandshakeInv s → hostOnly s →
    ∃ t, core.run k s = .next t ∧ HandshakeInv t ∧ hostOnly t

/-- R98, R106, R126: an ENCODE accepted at one edge is busy, without results, before each of the
next ENC_LATENCY edges, and after them DONE = 1 with the results of Encode, for whatever START and
PAYLOAD_IN the host drives while RST = 0. -/
def Obligations.EncodeCompletesAfterLatency : Prop :=
  ∀ (s : State) (p : Payload) (ws : List InWord) (rest : List Slot),
    s.busy = false → ws.length = Config.encLatency → (∀ w ∈ ws, rstLow w) →
    s.feed = .cmd (inWord false true p) :: (ws.map Slot.cmd ++ rest) →
    (∀ k, 1 ≤ k → k ≤ Config.encLatency → ∃ t, core.run k s = .next t ∧
      t.busy = true ∧ t.done = false ∧ noResults t) ∧
    ∃ t, core.run (Config.encLatency + 1) s = .next t ∧ t.busy = false ∧ t.done = true ∧
      t.p = some p ∧ holdsResults t (encodeOf p) ∧ t.feed = rest

/-- R103: over any number of idle edges an idle block keeps every register. -/
def Obligations.ResultsStableWhileIdle : Prop :=
  ∀ (s : State) (ws : List InWord) (rest : List Slot),
    s.busy = false → (∀ w ∈ ws, idleInput w) → s.feed = ws.map Slot.cmd ++ rest →
    core.run ws.length s = .next { s with feed := rest }

/-- R104: PAYLOAD_IN affects an edge only where START is accepted. -/
def Obligations.PayloadMattersOnlyWhenAccepted : Prop :=
  ∀ (s : State) (w w' : InWord) (rest : List Slot),
    inRst w = inRst w' → inStart w = inStart w' →
    ¬(inRst w = false ∧ inStart w = true ∧ s.busy = false) →
    step { s with feed := .cmd w :: rest } = step { s with feed := .cmd w' :: rest }

/-- R3: two ENCODEs of the same payload complete with the same results, whatever the two blocks did
before and whatever else their hosts drive meanwhile with RST = 0. -/
def Obligations.ResultsDependOnPayloadAlone : Prop :=
  ∀ (s s' : State) (p : Payload) (ws ws' : List InWord) (rest rest' : List Slot),
    s.busy = false → s'.busy = false →
    ws.length = Config.encLatency → ws'.length = Config.encLatency →
    (∀ w ∈ ws, rstLow w) → (∀ w ∈ ws', rstLow w) →
    s.feed = .cmd (inWord false true p) :: (ws.map Slot.cmd ++ rest) →
    s'.feed = .cmd (inWord false true p) :: (ws'.map Slot.cmd ++ rest') →
    ∃ t t', core.run (Config.encLatency + 1) s = .next t ∧
      core.run (Config.encLatency + 1) s' = .next t' ∧ t.done = true ∧ t.fcs.isSome = true ∧
      t.fcs = t'.fcs ∧ t.cw = t'.cw ∧ t.chr = t'.chr ∧ t.bar = t'.bar

/-- R43, R57 and log entry 2: each of the fourteen datapath operations, alone, gives a next state
that differs from the state before it in the wires only. -/
def Obligations.DatapathRowsTouchNoRegister : Prop :=
  ∀ (i : Instr) (s : State), i.format ≠ .inWord →
    ∃ d : Datapath, exec i s = .next { s with dp := d }

/-- R20, R25, R97, R99, R118: a command that changes BUSY, DONE, P or a result register is a reset, an
accepted START or a completion, which writes all the results at once.
CNT is left out: it counts at every busy edge (R98), and StepFollowsCaseTable says how.
That no command touches the wires or the feed is a clause about the model's own fields (log entries 1
to 3). -/
def Obligations.CommandsChangeRegistersOnlyThen : Prop :=
  ∀ (i : Instr) (s t : State), i.format = .inWord → exec i s = .next t →
    t.dp = s.dp ∧ t.feed = s.feed ∧
    ((t.busy = s.busy ∧ t.done = s.done ∧ t.p = s.p ∧ t.fcs = s.fcs ∧ t.cw = s.cw ∧
        t.chr = s.chr ∧ t.bar = s.bar) ∨
      (∃ start payload, i = .reset start payload ∧ t.busy = false ∧ t.done = false ∧
        t.p = none ∧ noResults t) ∨
      (∃ payload, (i = .encode payload ∨ i = .encodeIgnored payload) ∧ s.busy = false ∧
        t.busy = true ∧ t.done = false ∧ t.p = some payload ∧ noResults t) ∨
      (∃ p, s.busy = true ∧ s.cnt = 1 ∧ s.p = some p ∧ t.busy = false ∧ t.done = true ∧
        t.p = some p ∧ holdsResults t (encodeOf p)))

/-! ## The ports and the host (R8 to R10, R14, R28, R52, R62, R122) -/

/-- R14: each port shows its register, element i of an array in its own bits. -/
def Obligations.PortsShowRegisters : Prop :=
  ∀ s : State,
    (busyOut s).toNat = s.busy.toNat ∧ (doneOut s).toNat = s.done.toNat ∧
    (∀ f, s.fcs = some f → fcsOut s = .ok f) ∧
    (∀ v, s.cw = some v → ∃ x, cwOut s = .ok x ∧
      ∀ (i : Nat) (h : i < 10), x.extractLsb' (11 * i) 11 = v[i]) ∧
    (∀ v, s.chr = some v → ∃ x, chrOut s = .ok x ∧
      ∀ (k : Nat) (h : k < 10), x.extractLsb' (13 * k) 13 = v[k]) ∧
    (∀ v, s.bar = some v → ∃ x, barsOut s = .ok x ∧
      ∀ (i : Nat) (h : i < 65), x.extractLsb' (2 * i) 2 = v[i])

/-- R122: in a state that meets the invariant a host read of a result port is a fault while
DONE = 0, and gives a value while DONE = 1. -/
def Obligations.ResultReadsNeedDone : Prop :=
  ∀ s : State, HandshakeInv s →
    (s.done = false →
      fcsOut s = .error (.readOfNoValue .fcsOut) ∧ cwOut s = .error (.readOfNoValue .cwOut) ∧
      chrOut s = .error (.readOfNoValue .chrOut) ∧ barsOut s = .error (.readOfNoValue .barsOut)) ∧
    (s.done = true →
      (∃ x, fcsOut s = .ok x) ∧ (∃ x, cwOut s = .ok x) ∧ (∃ x, chrOut s = .ok x) ∧
      ∃ x, barsOut s = .ok x)

/-- R51, R52: 65 letters, the letter at place i being T, D, A or F as bar i is 0, 1, 2 or 3. -/
def Obligations.LettersFollowBars : Prop :=
  ∀ bar : Vector Bar 65, (lettersOf bar).length = 65 ∧
    ∀ (i : Nat) (h : i < 65),
      (lettersOf bar)[i]? = ['T', 'D', 'A', 'F'][(bar[i]).toNat]?

/-- R9: the routing offset ranges. -/
def Obligations.RoutingOffsetRanges : Prop :=
  ∀ (r : List (Fin 10)) (off : Nat), routingOffset r = some off →
    (r.length = 0 ∧ off = 0) ∨ (r.length = 5 ∧ 1 ≤ off ∧ off ≤ 100000) ∨
    (r.length = 9 ∧ 100001 ≤ off ∧ off ≤ 1000100000) ∨
    (r.length = 11 ∧ 1000100001 ≤ off ∧ off ≤ 101000100000)

/-- R10: a payload that the host's merge builds is in contract, and no larger than the bound of
R10. -/
def Obligations.MergedPayloadsAreInContract : Prop :=
  ∀ (t r : List (Fin 10)) (p : Payload), payloadOfDigits t r = some p →
    p.toNat ≤ 5050005000054999999999999999999 ∧ inContract p = true ∧
    mergeOf t r = some p.toNat

/-- R62: WAIT, from a busy state that meets the invariant, ends with DONE = 1 and the results of the
captured payload. -/
def Obligations.WaitEndsWithResults : Prop :=
  ∀ (s : State) (p : Payload), HandshakeInv s → s.busy = true → s.p = some p →
    ∃ t, runStmt .wait s = .next t ∧ t.done = true ∧ t.busy = false ∧
      holdsResults t (encodeOf p) ∧ t.feed = s.feed

/-- R62, R63: on an idle block the script ENCODE_WAIT, READ_ALL passes when the expected values are
those of Encode. -/
def Obligations.EncodeWaitReadAllPasses : Prop :=
  ∀ (s : State) (p : Payload), s.busy = false →
    let r := encodeOf p
    let ex := fun x : ScriptLine => x.expand r.fcs.toNat (packPort r.cw).toNat
      (packPort r.chr).toNat (packPort r.bar).toNat
    ∃ t, runScript (ex (.encodeWait p) ++ ex .readAll) s = .next t ∧ t.feed = s.feed ∧
      holdsResults t r
end

