-- ==== Sys2Proof/Laws/Decode.lean ====
section
/-! SUPPORT. The fields of an IN word, and what the selects of a word say bit by bit. -/

namespace Sys2Proof

@[simp] theorem inRst_inWord (rst start : Bool) (p : Payload) : inRst (inWord rst start p) = rst := by
  unfold inRst inWord
  rw [BitVec.getLsbD_append, if_neg (by decide)]
  simp

@[simp] theorem inStart_inWord (rst start : Bool) (p : Payload) :
    inStart (inWord rst start p) = start := by
  unfold inStart inWord
  rw [BitVec.getLsbD_append, if_pos (by decide), BitVec.getLsbD_append, if_neg (by decide)]
  simp

@[simp] theorem inPayload_inWord (rst start : Bool) (p : Payload) :
    inPayload (inWord rst start p) = p := by
  unfold inPayload inWord
  ext k hk
  have h : k < 105 := by omega
  rw [BitVec.getElem_extractLsb', Nat.zero_add, BitVec.getLsbD_append, if_pos (by omega),
    BitVec.getLsbD_append, if_pos (by omega)]
  rfl

/-- A word is the word of its own fields (R48). -/
theorem inWord_of_fields (w : InWord) : inWord (inRst w) (inStart w) (inPayload w) = w := by
  unfold inWord
  refine BitVec.eq_of_getLsbD_eq fun k hk => ?_
  rw [BitVec.getLsbD_append, BitVec.getLsbD_append]
  split
  · split
    · simp [inPayload, *]
    · obtain rfl : k = 104 := by omega
      simp [inStart]
  · obtain rfl : k = 105 := by omega
    simp [inRst]

/-- An IN word decodes to a command of the host, never to a datapath operation. -/
theorem decodeCommand_format (busy : Bool) (w : InWord) : (decodeCommand busy w).format = .inWord := by
  unfold decodeCommand
  split
  · rfl
  · split
    · split <;> rfl
    · rfl

/-- The mask of codeword i selects bit 9 - i (R55, R85). -/
theorem Machine.complementSelected_eq_bit (f : Fcs) (i : Fin 10) :
    Machine.complementSelected f i = f.getLsbD (9 - i.val) := by
  have h : ∀ k, (f &&& Machine.complementMask i).getLsbD k =
      (f.getLsbD k && decide (k = 9 - i.val)) := by
    intro k
    rw [BitVec.getLsbD_and]
    congr 1
    by_cases hk : k < 11
    · revert i; revert k; decide
    · rw [BitVec.getLsbD_of_ge _ _ (by omega)]
      simp; omega
  unfold Machine.complementSelected
  cases hb : f.getLsbD (9 - i.val) with
  | true =>
    rw [bne_iff_ne]
    intro h0
    have := h (9 - i.val)
    rw [h0, hb] at this
    simp at this
  | false =>
    rw [bne_eq_false_iff_eq]
    refine BitVec.eq_of_getLsbD_eq fun k _ => ?_
    rw [h k]
    by_cases hk : k = 9 - i.val
    · simp [hk, hb]
    · simp [hk]

end Sys2Proof
end

