-- ==== Sys2Proof/Laws/State.lean ====
section
/-! SUPPORT. What each register transfer leaves in each field of the state: one lemma per field per
update, so that no later proof unfolds a record update. -/

namespace Sys2Proof.Machine

@[simp] theorem advance_busy (s : State) :
    (advance s).busy = s.busy := rfl
@[simp] theorem advance_done (s : State) :
    (advance s).done = s.done := rfl
@[simp] theorem advance_cnt (s : State) :
    (advance s).cnt = s.cnt := rfl
@[simp] theorem advance_p (s : State) :
    (advance s).p = s.p := rfl
@[simp] theorem advance_fcs (s : State) :
    (advance s).fcs = s.fcs := rfl
@[simp] theorem advance_cw (s : State) :
    (advance s).cw = s.cw := rfl
@[simp] theorem advance_chr (s : State) :
    (advance s).chr = s.chr := rfl
@[simp] theorem advance_bar (s : State) :
    (advance s).bar = s.bar := rfl
@[simp] theorem advance_feed (s : State) :
    (advance s).feed = s.feed.tail := rfl
@[simp] theorem advance_dp (s : State) :
    (advance s).dp = s.dp := rfl
@[simp] theorem advance_freeIdx (s : State) :
    (advance s).freeIdx = s.freeIdx := rfl

@[simp] theorem resetAction_busy (s : State) :
    (resetAction s).busy = false := rfl
@[simp] theorem resetAction_done (s : State) :
    (resetAction s).done = false := rfl
@[simp] theorem resetAction_cnt (s : State) :
    (resetAction s).cnt = Config.freeCnt s.freeIdx := rfl
@[simp] theorem resetAction_p (s : State) :
    (resetAction s).p = none := rfl
@[simp] theorem resetAction_fcs (s : State) :
    (resetAction s).fcs = none := rfl
@[simp] theorem resetAction_cw (s : State) :
    (resetAction s).cw = none := rfl
@[simp] theorem resetAction_chr (s : State) :
    (resetAction s).chr = none := rfl
@[simp] theorem resetAction_bar (s : State) :
    (resetAction s).bar = none := rfl
@[simp] theorem resetAction_feed (s : State) :
    (resetAction s).feed = s.feed := rfl
@[simp] theorem resetAction_dp (s : State) :
    (resetAction s).dp = s.dp := rfl
@[simp] theorem resetAction_freeIdx (s : State) :
    (resetAction s).freeIdx = s.freeIdx + 1 := rfl

@[simp] theorem acceptAction_busy (x : Payload) (s : State) :
    (acceptAction x s).busy = true := rfl
@[simp] theorem acceptAction_done (x : Payload) (s : State) :
    (acceptAction x s).done = false := rfl
@[simp] theorem acceptAction_cnt (x : Payload) (s : State) :
    (acceptAction x s).cnt = Config.encLatency := rfl
@[simp] theorem acceptAction_p (x : Payload) (s : State) :
    (acceptAction x s).p = some x := rfl
@[simp] theorem acceptAction_fcs (x : Payload) (s : State) :
    (acceptAction x s).fcs = none := rfl
@[simp] theorem acceptAction_cw (x : Payload) (s : State) :
    (acceptAction x s).cw = none := rfl
@[simp] theorem acceptAction_chr (x : Payload) (s : State) :
    (acceptAction x s).chr = none := rfl
@[simp] theorem acceptAction_bar (x : Payload) (s : State) :
    (acceptAction x s).bar = none := rfl
@[simp] theorem acceptAction_feed (x : Payload) (s : State) :
    (acceptAction x s).feed = s.feed := rfl
@[simp] theorem acceptAction_dp (x : Payload) (s : State) :
    (acceptAction x s).dp = s.dp := rfl
@[simp] theorem acceptAction_freeIdx (x : Payload) (s : State) :
    (acceptAction x s).freeIdx = s.freeIdx := rfl

@[simp] theorem completeAction_busy (r : Results) (s : State) :
    (completeAction r s).busy = false := rfl
@[simp] theorem completeAction_done (r : Results) (s : State) :
    (completeAction r s).done = true := rfl
@[simp] theorem completeAction_cnt (r : Results) (s : State) :
    (completeAction r s).cnt = Config.freeCnt s.freeIdx := rfl
@[simp] theorem completeAction_p (r : Results) (s : State) :
    (completeAction r s).p = s.p := rfl
@[simp] theorem completeAction_fcs (r : Results) (s : State) :
    (completeAction r s).fcs = some r.fcs := rfl
@[simp] theorem completeAction_cw (r : Results) (s : State) :
    (completeAction r s).cw = some r.cw := rfl
@[simp] theorem completeAction_chr (r : Results) (s : State) :
    (completeAction r s).chr = some r.chr := rfl
@[simp] theorem completeAction_bar (r : Results) (s : State) :
    (completeAction r s).bar = some r.bar := rfl
@[simp] theorem completeAction_feed (r : Results) (s : State) :
    (completeAction r s).feed = s.feed := rfl
@[simp] theorem completeAction_dp (r : Results) (s : State) :
    (completeAction r s).dp = s.dp := rfl
@[simp] theorem completeAction_freeIdx (r : Results) (s : State) :
    (completeAction r s).freeIdx = s.freeIdx + 1 := rfl

@[simp] theorem countAction_busy (s : State) :
    (countAction s).busy = s.busy := rfl
@[simp] theorem countAction_done (s : State) :
    (countAction s).done = s.done := rfl
@[simp] theorem countAction_cnt (s : State) :
    (countAction s).cnt = s.cnt - 1 := rfl
@[simp] theorem countAction_p (s : State) :
    (countAction s).p = s.p := rfl
@[simp] theorem countAction_fcs (s : State) :
    (countAction s).fcs = s.fcs := rfl
@[simp] theorem countAction_cw (s : State) :
    (countAction s).cw = s.cw := rfl
@[simp] theorem countAction_chr (s : State) :
    (countAction s).chr = s.chr := rfl
@[simp] theorem countAction_bar (s : State) :
    (countAction s).bar = s.bar := rfl
@[simp] theorem countAction_feed (s : State) :
    (countAction s).feed = s.feed := rfl
@[simp] theorem countAction_dp (s : State) :
    (countAction s).dp = s.dp := rfl
@[simp] theorem countAction_freeIdx (s : State) :
    (countAction s).freeIdx = s.freeIdx := rfl

@[simp] theorem withWires_busy (d : Datapath) (s : State) :
    (withWires d s).busy = s.busy := rfl
@[simp] theorem withWires_done (d : Datapath) (s : State) :
    (withWires d s).done = s.done := rfl
@[simp] theorem withWires_cnt (d : Datapath) (s : State) :
    (withWires d s).cnt = s.cnt := rfl
@[simp] theorem withWires_p (d : Datapath) (s : State) :
    (withWires d s).p = s.p := rfl
@[simp] theorem withWires_fcs (d : Datapath) (s : State) :
    (withWires d s).fcs = s.fcs := rfl
@[simp] theorem withWires_cw (d : Datapath) (s : State) :
    (withWires d s).cw = s.cw := rfl
@[simp] theorem withWires_chr (d : Datapath) (s : State) :
    (withWires d s).chr = s.chr := rfl
@[simp] theorem withWires_bar (d : Datapath) (s : State) :
    (withWires d s).bar = s.bar := rfl
@[simp] theorem withWires_feed (d : Datapath) (s : State) :
    (withWires d s).feed = s.feed := rfl
@[simp] theorem withWires_dp (d : Datapath) (s : State) :
    (withWires d s).dp = d := rfl
@[simp] theorem withWires_freeIdx (d : Datapath) (s : State) :
    (withWires d s).freeIdx = s.freeIdx := rfl

end Sys2Proof.Machine
end

