-- ==== Sys2Proof/Laws/Ops.lean ====
section
/-! SUPPORT. One lemma for each shared operation that says everything it can do, and the inversion of
exec and of step, for proofs to cite instead of unfolding them. -/

namespace Sys2Proof.Machine

theorem fetch_of_feed_cons {s : State} {x : Slot} {rest : List Slot} (h : s.feed = x :: rest) :
    fetch s = x := by
  simp [fetch, h]

theorem fetch_of_feed_nil {s : State} (h : s.feed = []) : fetch s = idleWord := by
  simp [fetch, h]

theorem advance_of_feed_cons {s : State} {x : Slot} {rest : List Slot} (h : s.feed = x :: rest) :
    advance s = { s with feed := rest } := by
  simp [advance, h]

/-- All that a busy edge can do when it answers a next state (R98, R99). -/
theorem busyEdgeWith_next_iff {e : Payload → Results} {s t : State} :
    busyEdgeWith e s = .next t ↔
      (∃ p, s.cnt = 1 ∧ s.p = some p ∧ t = completeAction (e p) s) ∨
      (1 < s.cnt ∧ t = countAction s) := by
  unfold busyEdgeWith
  split
  · rename_i h; simp [h]
  · split
    · rename_i h
      cases hp : s.p with
      | none => simp [h]
      | some p => simp [h, eq_comm]
    · rename_i h0 h1
      have : 1 < s.cnt := by omega
      simp [this, h1, eq_comm]

theorem busyEdge_next_iff {s t : State} :
    busyEdge s = .next t ↔
      (∃ p, s.cnt = 1 ∧ s.p = some p ∧ t = completeAction (encodeOf p) s) ∨
      (1 < s.cnt ∧ t = countAction s) :=
  busyEdgeWith_next_iff

theorem busyEdge_of_last {s : State} {p : Payload} (hc : s.cnt = 1) (hp : s.p = some p) :
    busyEdge s = .next (completeAction (encodeOf p) s) :=
  busyEdge_next_iff.2 (.inl ⟨p, hc, hp, rfl⟩)

theorem busyEdge_of_more {s : State} (hc : 1 < s.cnt) : busyEdge s = .next (countAction s) :=
  busyEdge_next_iff.2 (.inr ⟨hc, rfl⟩)

theorem requestEdge_of_idle {x : Payload} {s : State} (h : s.busy = false) :
    requestEdge x s = .next (acceptAction x s) := by
  simp [requestEdge, h]

theorem requestEdge_of_busy {x : Payload} {s : State} (h : s.busy = true) :
    requestEdge x s = busyEdge s := by
  simp [requestEdge, h]

/-- All that an instruction can do when it answers a next state: reset, accept, a busy edge, nothing,
or new values on the wires. -/
theorem exec_next_cases {i : Instr} {s t : State} (h : exec i s = .next t) :
    (∃ start x, i = .reset start x ∧ t = resetAction s) ∨
    (∃ x, (i = .encode x ∨ i = .encodeIgnored x) ∧ s.busy = false ∧ t = acceptAction x s) ∨
    (i.format = .inWord ∧ s.busy = true ∧ busyEdge s = .next t) ∨
    (i.format = .inWord ∧ s.busy = false ∧ t = s) ∨
    (i.format ≠ .inWord ∧ ∃ d, t = withWires d s) := by
  have request {x : Payload} (hi : (i = .encode x ∨ i = .encodeIgnored x))
      (hr : requestEdge x s = .next t) :
      (∃ x, (i = .encode x ∨ i = .encodeIgnored x) ∧ s.busy = false ∧ t = acceptAction x s) ∨
      (i.format = .inWord ∧ s.busy = true ∧ busyEdge s = .next t) := by
    cases hb : s.busy with
    | false =>
      rw [requestEdge_of_idle hb] at hr
      exact .inl ⟨x, hi, rfl, by injection hr with hr; exact hr.symm⟩
    | true =>
      rw [requestEdge_of_busy hb] at hr
      refine .inr ⟨?_, rfl, hr⟩
      rcases hi with rfl | rfl <;> rfl
  have wires (hf : i.format ≠ .inWord) {d : Datapath} (hd : (.next (withWires d s) : Answer) = .next t) :
      i.format ≠ .inWord ∧ ∃ d, t = withWires d s :=
    ⟨hf, d, by injection hd with hd; exact hd.symm⟩
  cases i with
  | reset start x => exact .inl ⟨start, x, rfl, by injection h with h; exact h.symm⟩
  | encode x => exact .inr ((request (.inl rfl) h).imp id .inl)
  | encodeIgnored x => exact .inr ((request (.inr rfl) h).imp id .inl)
  | nop x =>
    cases hb : s.busy with
    | true =>
      have : exec (.nop x) s = busyEdge s := by simp [exec, execNop, hb]
      exact .inr (.inr (.inl ⟨rfl, rfl, this ▸ h⟩))
    | false =>
      have : exec (.nop x) s = .next s := by simp [exec, execNop, hb]
      rw [this] at h
      exact .inr (.inr (.inr (.inl ⟨rfl, rfl, by injection h with h; exact h.symm⟩)))
  | fcsgen => exact .inr (.inr (.inr (.inr (wires nofun h))))
  | truncate => exact .inr (.inr (.inr (.inr (wires nofun h))))
  | decompose => exact .inr (.inr (.inr (.inr (wires nofun h))))
  | fold => exact .inr (.inr (.inr (.inr (wires nofun h))))
  | nofold => exact .inr (.inr (.inr (.inr (wires nofun h))))
  | lut5 => exact .inr (.inr (.inr (.inr (wires nofun h))))
  | lut2 => exact .inr (.inr (.inr (.inr (wires nofun h))))
  | complement => exact .inr (.inr (.inr (.inr (wires nofun h))))
  | pass => exact .inr (.inr (.inr (.inr (wires nofun h))))
  | reverse => exact .inr (.inr (.inr (.inr (wires nofun h))))
  | barT => exact .inr (.inr (.inr (.inr (wires nofun h))))
  | barD => exact .inr (.inr (.inr (.inr (wires nofun h))))
  | barA => exact .inr (.inr (.inr (.inr (wires nofun h))))
  | barF => exact .inr (.inr (.inr (.inr (wires nofun h))))

/-- A step answers a next state only by executing the instruction that the presented word decodes
to. -/
theorem step_next_iff {s t : State} :
    step s = .next t ↔ ∃ i, decode s.busy (fetch s) = .ok i ∧ exec i (advance s) = .next t := by
  unfold step
  cases h : decode s.busy (fetch s) with
  | ok i => simp
  | error e => cases e; simp

end Sys2Proof.Machine
end

