-- ==== Sys2Proof/Laws/PerInstr.lean ====
section
/-! SUPPORT. For each instruction as syntax: its word has the format that the opcode table gives its
row. -/

namespace Sys2Proof.Laws.RowFormat

/-- The word an instruction encodes to has the format of its row (R47 to R51, R57). -/
def Statement (i : Instr) : Prop := (Sys2Proof.encode i).format = i.format

theorem reset (start : Bool) (x : Payload) : Statement (.reset start x) := rfl
theorem encode (x : Payload) : Statement (.encode x) := rfl
theorem encodeIgnored (x : Payload) : Statement (.encodeIgnored x) := rfl
theorem nop (x : Payload) : Statement (.nop x) := rfl
theorem fcsgen (p : Payload) : Statement (.fcsgen p) := rfl
theorem truncate (p : Payload) : Statement (.truncate p) := rfl
theorem decompose (p : Payload) : Statement (.decompose p) := rfl
theorem fold (f : Fcs) : Statement (.fold f) := rfl
theorem nofold (f : Fcs) : Statement (.nofold f) := rfl
theorem lut5 (i : CwIndex) (c : Codeword) : Statement (.lut5 i c) := rfl
theorem lut2 (i : CwIndex) (c : Codeword) : Statement (.lut2 i c) := rfl
theorem complement (i : CwIndex) (f : Fcs) : Statement (.complement i f) := rfl
theorem pass (i : CwIndex) (f : Fcs) : Statement (.pass i f) := rfl
theorem reverse (w : Character) : Statement (.reverse w) := rfl
theorem barT (i : BarIndex) : Statement (.barT i) := rfl
theorem barD (i : BarIndex) : Statement (.barD i) := rfl
theorem barA (i : BarIndex) : Statement (.barA i) := rfl
theorem barF (i : BarIndex) : Statement (.barF i) := rfl

end Sys2Proof.Laws.RowFormat
end

