-- ==== Sys2Proof/Laws/Rom.lean ====
section
/-! SUPPORT. What the ROM reads and the bar map give, so that no later proof evaluates a listing. -/

namespace Sys2Proof.Machine

theorem rom2_length : rom2.length = 78 := by decide +kernel

theorem rom5_length : rom5.length = 1287 := by decide +kernel

/-- A codeword up to 1286 reads its entry of ROM5 (R84). -/
theorem rom5Read_eq {c : Codeword} (h : c.toNat ≤ 1286) :
    rom5Read c = rom5[c.toNat]'(by rw [rom5_length]; omega) := by
  unfold rom5Read
  rw [List.getElem?_eq_getElem (by rw [rom5_length]; omega)]

/-- A codeword of 1287 to 1364 reads its entry of ROM2 (R84). -/
theorem rom2Read_eq {c : Codeword} (hl : 1287 ≤ c.toNat) (hu : c.toNat ≤ 1364) :
    rom2Read c = rom2[c.toNat - 1287]'(by rw [rom2_length]; omega) := by
  unfold rom2Read
  rw [if_pos hl, List.getElem?_eq_getElem (by rw [rom2_length]; omega)]

theorem lookup_of_le {c : Codeword} (h : c.toNat ≤ 1286) : lookup c = rom5Read c := by
  simp [lookup, selectsRom5, h]

theorem lookup_of_gt {c : Codeword} (h : 1286 < c.toNat) : lookup c = rom2Read c := by
  have : ¬c.toNat ≤ 1286 := by omega
  simp [lookup, selectsRom5, this]

/-- BARMAP's words spell the block's bar map (R90, R91). -/
theorem barMapOf_barMapWords : barMapOf barMapWords = some barMap := by
  simp [barMap]

end Sys2Proof.Machine
end

