-- ==== Sys2Proof/Laws/Run.lean ====
section
/-! SUPPORT. How a run unfolds one step at a time, and what one presented word does. -/

namespace Sys2Proof.Machine

@[simp] theorem core_run_zero (s : State) : core.run 0 s = .next s := by
  simp only [Host.Core.run]

/-- A run whose first step answers a next state goes on from it. -/
theorem core_run_succ_of_next {s t : State} (k : Nat) (h : step s = .next t) :
    core.run (k + 1) s = core.run k t := by
  have h' : core.step s = .next t := h
  simp only [Host.Core.run, h']

/-- Presenting one more word in front of the feed executes what it decodes to, in the state as it
was. -/
theorem step_present {s : State} {x : Slot} {i : Instr} (h : decode s.busy x = .ok i) :
    step { s with feed := x :: s.feed } = exec i s := by
  have hd : decode ({ s with feed := x :: s.feed } : State).busy
      (fetch { s with feed := x :: s.feed }) = .ok i := h
  unfold step
  rw [hd]
  rfl

end Sys2Proof.Machine
end

