-- ==== Sys2Proof/Laws/Units.lean ====
section
/-! SUPPORT. The datapath's units, element by element. -/

namespace Sys2Proof.Machine

/-- Writing one bar of the wires (R92) is writing the wires. -/
theorem withBar_eq (i : BarIndex) (b : Bar) (s : State) :
    withBar i b s = withWires { s.dp with bar := s.dp.bar.set i b } s := rfl

/-- After the division by 636 and n divisions by 1365 (R79). -/
theorem quotient_eq (data n : Nat) : quotient data n = data / 636 / 1365 ^ n := by
  induction n with
  | zero => simp [quotient, radixJ]
  | succ n ih => simp [quotient, ih, radix, Nat.div_div_eq_div_mul, Nat.pow_succ, Nat.mul_assoc]

@[simp] theorem decomposeOf_getElem (data : Data) (i : Nat) (h : i < 10) :
    (decomposeOf data)[i] = BitVec.ofNat 11 (digit data.toNat i) := by
  simp [decomposeOf]

@[simp] theorem reverseOf_getElem (q : Vector Character 10) (k : Nat) (h : k < 10) :
    (reverseOf q)[k] = q[9 - k] := by
  simp [reverseOf]

@[simp] theorem selectBars_getElem (m : BarMap) (chr : Vector Character 10) (i : Nat) (h : i < 65) :
    (selectBars m chr)[i] = selectBar m[i] chr := by
  simp [selectBars]

theorem mapChars_getElem (cw : Vector Codeword 10) (f : Fcs) (k : Nat) (h : k < 10) :
    (mapChars cw f)[k] = charOf f ⟨9 - k, by omega⟩ (lookup cw[9 - k]) := by
  simp [mapChars]

theorem codewordsOf_getElem_of_lt (f : Fcs) (w : Vector Codeword 10) (i : Nat) (h : i < 9) :
    (codewordsOf f w)[i] = w[i] := by
  unfold codewordsOf
  split
  · exact Vector.getElem_set_ne _ _ (by omega)
  · rfl

theorem codewordsOf_getElem_last (f : Fcs) (w : Vector Codeword 10) :
    (codewordsOf f w)[9] = if foldSelected f then foldOf w[9] else w[9] := by
  unfold codewordsOf
  split <;> simp

end Sys2Proof.Machine
end

