-- ==== Sys2Proof/Tests/Slice0.lean ====
section
/-! SUPPORT. Small tests, each with the place of the spec its expected value comes from, and a witness
for the hypotheses of each statement. -/

namespace Sys2Proof.Tests

open Machine Safety

/-! ## Helpers -/

/-- Vector V4 of 95_test_vectors.md. -/
def v4 : Payload := 0x016907B2A24ABC16A2E5C004B1#104

/-- A busy block with the given edges left. -/
def busyState (edges : Nat) (p : Payload) : State :=
  { State.reset with busy := true, cnt := edges, p := some p }

/-- An idle block that holds the results of a payload. -/
def doneState (p : Payload) : State :=
  completeAction (encodeOf p) (busyState 1 p)

/-- The characters of V4. -/
def v4Chars : Vector Character 10 :=
  #v[0x0DCB, 0x085C, 0x08E4, 0x0B06, 0x06DD, 0x1740, 0x17C6, 0x1200, 0x123F, 0x1B2B]

/-- The codewords of V4 before the fold. -/
def v4Digits : Vector Codeword 10 := #v[602, 35, 1294, 816, 19, 861, 1022, 607, 787, 14]

/-- The wires that the units of V4 drive up to the lookup. -/
def v4Wires : State :=
  withWires { Datapath.low with w := v4Digits, l := Vector.replicate 10 0x001F, q := v4Chars } State.reset

/-- An answer is a next state with the given property. -/
def holdsAfter (a : Answer) (f : State → Bool) : Bool :=
  match a with
  | .next t => f t
  | .fault _ => false
  | .refused _ => false

/-! ## Ill-formed terms (R57) -/

theorem test_fold_needs_bit_ten : (Instr.fold 0x051#11).wellFormed = false := by decide
theorem test_nofold_needs_bit_ten_clear : (Instr.nofold 0x751#11).wellFormed = false := by decide
theorem test_lut5_needs_low_codeword : (Instr.lut5 0 1287#11).wellFormed = false := by decide
theorem test_lut2_needs_high_codeword : (Instr.lut2 0 1286#11).wellFormed = false := by decide
theorem test_lut2_needs_legal_codeword : (Instr.lut2 0 1365#11).wellFormed = false := by decide
theorem test_complement_needs_fcs_bit : (Instr.complement 2 0x751#11).wellFormed = false := by decide
theorem test_pass_needs_fcs_bit_clear : (Instr.pass 9 0x751#11).wellFormed = false := by decide
theorem test_encode_needs_idle : Instr.allowedWhen true (.encode 0) = false := by decide
theorem test_encodeIgnored_needs_busy : Instr.allowedWhen false (.encodeIgnored 0) = false := by decide

/-! ## Words written out from the encodings (R48, R57; the IN words of 95_test_vectors.md section 3) -/

theorem test_decode_reset : decode false (.cmd 0x200000000000000000000000000#106) = .ok (.reset false 0) := by
  decide
theorem test_decode_reset_wins : decode true (.cmd 0x300000000000000000000000001#106) = .ok (.reset true 1) := by
  decide
theorem test_decode_encode : decode false (.cmd 0x1016907B2A24ABC16A2E5C004B1#106) = .ok (.encode v4) := by
  decide
theorem test_decode_encodeIgnored :
    decode true (.cmd 0x13FBD723AB5D7EF61336687FFFF#106) =
      .ok (.encodeIgnored 0x3FBD723AB5D7EF61336687FFFF#104) := by decide
theorem test_decode_nop : decode true (.cmd 0x00000000000000000000000000F#106) = .ok (.nop 15) := by decide
theorem test_decode_fcsgen : decode false (.fcsgen v4) = .ok (.fcsgen v4) := by decide
theorem test_decode_truncate : decode false (.truncate v4) = .ok (.truncate v4) := by decide
theorem test_decode_decompose : decode false (.decompose v4) = .ok (.decompose v4) := by decide
theorem test_decode_fold : decode false (.fold 0b11101010001#11) = .ok (.fold 0x751#11) := by decide
theorem test_decode_nofold : decode false (.fold 0b00001010001#11) = .ok (.nofold 0x051#11) := by decide
theorem test_decode_lut5_top : decode false (.lut 1 1286#11) = .ok (.lut5 1 1286#11) := by decide
theorem test_decode_lut2_ends :
    decode false (.lut 1 1287#11) = .ok (.lut2 1 1287#11) ∧
      decode false (.lut 1 1364#11) = .ok (.lut2 1 1364#11) := by decide
theorem test_decode_codeword_1365 : decode false (.lut 1 1365#11) = .error (.reservedCodeword 1365#11) := by
  decide
/-- The note under section 2.4: with FCS 0x751 codewords 0, 1, 3, 5 and 9 are complemented. -/
theorem test_complemented_codewords :
    (List.finRange 10).map (complementSelected 0x751#11) =
      [true, true, false, true, false, true, false, false, false, true] := by decide
theorem test_decode_complement : decode false (.comp 5 0x751#11) = .ok (.complement 5 0x751#11) := by decide
theorem test_decode_pass : decode false (.comp 4 0x751#11) = .ok (.pass 4 0x751#11) := by decide
theorem test_decode_reverse : decode false (.reverse 0x0DCB#13) = .ok (.reverse 0x0DCB#13) := by decide
theorem test_decode_bars :
    decode false (.bar 3 0b00#2) = .ok (.barT 3) ∧ decode false (.bar 2 0b01#2) = .ok (.barD 2) ∧
      decode false (.bar 0 0b10#2) = .ok (.barA 0) ∧ decode false (.bar 4 0b11#2) = .ok (.barF 4) := by
  decide
theorem test_decodeTableWord :
    decodeTableWord 112 0x200000000000000000000000000 = some (.reset false 0) ∧
      decodeTableWord 112 0x100000000000000000000000000 = some (.encode 0) ∧
      decodeTableWord 16 0x400 = some (.fold 0x400#11) ∧ decodeTableWord 16 0 = some (.nofold 0) ∧
      decodeTableWord 8 2 = some (.barA 0) := by decide

/-! ## The commands (95_test_vectors.md section 2.7) -/

/-- H8: reset wins over the completion. -/
theorem test_reset_beats_completion :
    holdsAfter (exec (.reset true v4) (busyState 1 v4))
      (fun t => !t.busy && !t.done && t.p.isNone && t.bar.isNone) = true := by decide
/-- H3: an accepted START discards the old results. -/
theorem test_encode_discards_results :
    holdsAfter (exec (.encode 5) { State.reset with done := true, p := some v4, fcs := some 0x751#11 })
      (fun t => t.busy && !t.done && t.p == some 5 && t.fcs.isNone) = true := by decide
/-- H5: a START while busy is ignored. -/
theorem test_encodeIgnored_counts :
    holdsAfter (exec (.encodeIgnored 5) (busyState 2 v4))
      (fun t => t.busy && t.cnt == 1 && t.p == some v4) = true := by decide
/-- H6 with vector E1: the completion of the zero payload. -/
theorem test_nop_completes :
    holdsAfter (exec (.nop 7) (busyState 1 0))
      (fun t => !t.busy && t.done && t.fcs == some 0x6E0#11 &&
        (t.cw.map packPort) == some 0x1498000000000000000000000000#110) = true := by decide +kernel
/-- H10: an idle edge. -/
theorem test_nop_idle : exec (.nop 7) State.reset = .next State.reset := rfl
/-- Program 3.1, edge 2: the word is fetched, decoded and executed. -/
theorem test_step_accepts :
    holdsAfter (step (State.reset.withFetchWord 112 0x1016907B2A24ABC16A2E5C004B1))
      (fun t => t.busy && t.p == some v4 && t.feed.isEmpty) = true := by decide

/-! ## The datapath operations (95_test_vectors.md sections 2.2 to 2.5) -/

theorem test_fcsStep :
    fcsStep 0x7FF#11 0 = 0x0CB#11 ∧ fcsStep 0x3FF#11 0 = 0x7FE#11 ∧
      fcsStep 0x3FF#11 0x400#24 = 0x0CB#11 ∧ fcsStep 0x400#11 0x400#24 = 0#11 := by decide
/-- The byte 0 trace for P = 0. -/
theorem test_fcs_byte0_trace : fcsRepeat 6 fcsInit 0 = 0x70A#11 := by decide
theorem test_fcsgen :
    holdsAfter (exec (.fcsgen v4) State.reset) (fun t => t.dp.fcs == 0x751#11) = true := by decide +kernel
theorem test_truncate :
    holdsAfter (exec (.truncate 0x7F0000000000000000000000AB#104) State.reset)
      (fun t => t.dp.data == 0x3F0000000000000000000000AB#102) = true := by decide
/-- 2^102 - 1, with both ignored bits set. -/
theorem test_decompose :
    holdsAfter (exec (.decompose 0xFFFFFFFFFFFFFFFFFFFFFFFFFF#104) State.reset)
      (fun t => t.dp.w.toList == [78, 1159, 1006, 720, 744, 1214, 622, 226, 706, 661] &&
        t.dp.cw.toList == [78, 1159, 1006, 720, 744, 1214, 622, 226, 706, 0]) = true := by
  decide +kernel
theorem test_fold :
    holdsAfter (exec (.fold 0x751#11) v4Wires) (fun t => t.dp.cw[9] == 673#11) = true := by decide
theorem test_nofold :
    holdsAfter (exec (.nofold 0x051#11) v4Wires) (fun t => t.dp.cw[9] == 14#11) = true := by decide
theorem test_lut5 :
    holdsAfter (exec (.lut5 0 602#11) State.reset) (fun t => t.dp.l[0] == 0x04D4#13) = true := by
  decide +kernel
theorem test_lut2 :
    holdsAfter (exec (.lut2 2 1294#11) State.reset) (fun t => t.dp.l[2] == 0x1200#13) = true := by
  decide +kernel
theorem test_complement :
    holdsAfter (exec (.complement 9 0x751#11) v4Wires)
      (fun t => t.dp.q[9] == 0x1FE0#13 && t.dp.q[8] == 0x123F#13) = true := by decide
theorem test_pass :
    holdsAfter (exec (.pass 2 0x751#11) v4Wires) (fun t => t.dp.q[2] == 0x001F#13) = true := by decide
/-- Q as the characters of V4 in the other order. -/
theorem test_reverse :
    holdsAfter (exec (.reverse 0) v4Wires)
      (fun t => t.dp.chr[0] == 0x1B2B#13 && t.dp.chr[8] == 0x085C#13) = true := by decide
theorem test_barT : holdsAfter (exec (.barT 3) State.reset) (fun t => t.dp.bar[3] == 0#2) = true := by decide
theorem test_barD : holdsAfter (exec (.barD 2) State.reset) (fun t => t.dp.bar[2] == 1#2) = true := by decide
theorem test_barA : holdsAfter (exec (.barA 0) State.reset) (fun t => t.dp.bar[0] == 2#2) = true := by decide
theorem test_barF : holdsAfter (exec (.barF 64) State.reset) (fun t => t.dp.bar[64] == 3#2) = true := by decide
/-- Section 2.5: bars 3, 2, 0 and 4 of V4. -/
theorem test_select_v4 :
    (selectBars barMap v4Chars)[3] = 0#2 ∧ (selectBars barMap v4Chars)[2] = 1#2 ∧
      (selectBars barMap v4Chars)[0] = 2#2 ∧ (selectBars barMap v4Chars)[4] = 3#2 := by decide +kernel
/-- R94: no character bit set gives Trackers only, every bit set gives Full bars only. -/
theorem test_select_corners :
    selectBars barMap (Vector.replicate 10 0#13) = Vector.replicate 65 0#2 ∧
      selectBars barMap (Vector.replicate 10 0x1FFF#13) = Vector.replicate 65 3#2 := by decide +kernel
/-- R64 and section 2.1. -/
theorem test_rev13 : rev13 0x1234#13 = 0x0589#13 ∧ popcount 0x1234#13 = 5 := by decide
/-- Section 1.2, V4: the whole function, as letters. -/
theorem test_encode_v4_letters :
    lettersOf (encodeOf v4).bar =
      ['A','A','D','T','F','F','D','F','T','D','A','D','T','A','A','D','A','A','T','F','D','T',
       'D','D','A','A','A','D','D','T','D','T','T','D','A','F','A','D','A','D','D','D','T','F',
       'F','F','D','D','T','T','T','A','D','F','A','A','A','D','F','T','D','A','A','D','A'] := by
  decide +kernel

/-! ## Ports, host scripts and the host contract -/

theorem test_read_without_value : fcsOut State.reset = .error (.readOfNoValue .fcsOut) := by decide
/-- V4's CW_OUT. -/
theorem test_cwOut :
    packPort (n := 10) #v[602#11, 35, 1294, 816, 19, 861, 1022, 607, 787, 673] =
      0x150B134BEFF9AE81366143811A5A#110 := by decide
theorem test_script_line :
    lineOf ['N', 'O', 'P', ' ', '3', ' ', ';', 'x'] = some (.stmt (.nop 3)) := by decide
/-- A line of program 3.4. -/
theorem test_script_expect :
    lineOf ['E', 'X', 'P', 'E', 'C', 'T', ' ', 'D', 'O', 'N', 'E', ' ', '=', ' ', '0'] =
      some (.stmt (.expect .done 0)) := by decide
/-- V2: tracking 01234567094987654321, routing 01234. -/
theorem test_merge_v2 :
    payloadOfDigits [0, 1, 2, 3, 4, 5, 6, 7, 0, 9, 4, 9, 8, 7, 6, 5, 4, 3, 2, 1] [0, 1, 2, 3, 4] =
      some 0x0000000D138A87BAB5CF3804B1#104 := by decide
theorem test_merge_rejects_length : payloadOfDigits [0, 1] [] = none := by decide
/-- R53: 10 is a reserved character index, 13 a reserved bit position. -/
theorem test_reserved_bar_entry : barEntryOf 0xA000#16 = none ∧ barEntryOf 0x000D#16 = none := by decide
theorem test_bar_entry : barEntryOf 0x7243#16 = some ⟨7, 2, 4, 3⟩ := by decide

/-! ## Witnesses for the hypotheses of the statements -/

theorem witness_busy_inv (edges : Nat) (h : 1 ≤ edges) (p : Payload) :
    HandshakeInv (busyState edges p) := by
  refine ⟨by simp [busyState, State.reset], fun _ => ⟨rfl, rfl, rfl, rfl⟩, fun _ => ⟨rfl, rfl, h⟩⟩

theorem witness_idle_inv (feed : List Slot) : HandshakeInv { State.reset with feed := feed } := by
  refine ⟨by simp [State.reset], fun _ => ⟨rfl, rfl, rfl, rfl⟩, by simp [State.reset]⟩

theorem witness_done_inv (p : Payload) : HandshakeInv (doneState p) := by
  refine ⟨fun _ => ⟨p, rfl, rfl, rfl, rfl, rfl⟩, by simp [doneState], by simp [doneState]⟩

theorem witness_DecodeOfEncodeIsSame :
    (Instr.lut2 2 1294#11).wellFormed = true ∧ (Instr.lut2 2 1294#11).allowedWhen false = true ∧
      (Instr.encode v4).allowedWhen false = true ∧ (Instr.encodeIgnored v4).allowedWhen true = true := by
  decide

theorem witness_EncodeOfDecodedIsSame : decode true (.bar 64 3#2) = .ok (.barF 64) := by decide

theorem witness_CommandWordsFollowTable :
    (0x3FFFFFFFFFFFFFFFFFFFFFFFFFF#106).toNat =
      true.toNat * 2 ^ 105 + true.toNat * 2 ^ 104 + (0xFFFFFFFFFFFFFFFFFFFFFFFFFF#104).toNat := by decide

theorem witness_CodewordWordsSelectLookup :
    (1286#11).toNat ≤ 1286 ∧ (1287 ≤ (1287#11).toNat ∧ (1287#11).toNat ≤ 1364) ∧
      (1287 ≤ (1364#11).toNat ∧ (1364#11).toNat ≤ 1364) ∧ 1365 ≤ (1365#11).toNat ∧
      ({ State.reset with feed := [.lut 0 1365#11] } : State).feed = .lut 0 1365#11 :: [] := by decide

theorem witness_StepRunsDecodedInstruction :
    ({ State.reset with feed := [.cmd 0x200000000000000000000000000#106] } : State).feed =
        .cmd 0x200000000000000000000000000#106 :: [] ∧
      decode State.reset.busy (.cmd 0x200000000000000000000000000#106) = .ok (.reset false 0) ∧
      State.reset.feed = [] := by decide

/-- One witness for each case of R102. -/
theorem witness_StepFollowsCaseTable :
    (HandshakeInv { State.reset with feed := [.cmd (inWord true true v4)] } ∧
      inRst (inWord true true v4) = true) ∧
    (HandshakeInv { State.reset with feed := [.cmd (inWord false true v4)] } ∧
      inRst (inWord false true v4) = false ∧ inStart (inWord false true v4) = true) ∧
    (HandshakeInv { busyState 1 v4 with feed := [.cmd (inWord false true 0)] } ∧
      (busyState 1 v4).busy = true ∧ (busyState 1 v4).cnt = 1) ∧
    (HandshakeInv { busyState 2 v4 with feed := [.cmd (inWord false false 0)] } ∧
      (busyState 2 v4).busy = true ∧ 1 < (busyState 2 v4).cnt) ∧
    (HandshakeInv { State.reset with feed := [.cmd (inWord false false v4)] } ∧
      inStart (inWord false false v4) = false ∧ State.reset.busy = false) :=
  ⟨⟨witness_idle_inv _, by simp⟩, ⟨witness_idle_inv _, by simp, by simp⟩,
    ⟨witness_busy_inv 1 (by decide) v4, rfl, rfl⟩, ⟨witness_busy_inv 2 (by decide) v4, rfl, by decide⟩,
    ⟨witness_idle_inv _, by simp, rfl⟩⟩

theorem witness_EncodeAcceptedWhenIdle : State.reset.busy = false := rfl

theorem witness_RequestDependsOnBusyAlone :
    State.reset.busy = false ∧ (busyState 1 v4).busy = true := by decide

theorem witness_BusyEdgeCountsDown : (busyState 2 v4).busy = true ∧ 1 < (busyState 2 v4).cnt := by decide

theorem witness_CompletionWritesAllResults :
    (busyState 1 v4).busy = true ∧ (busyState 1 v4).cnt = 1 ∧ (busyState 1 v4).p = some v4 := by decide

theorem witness_StartWhileBusyHasNoEffect :
    (busyState 1 v4).busy = true ∧ inRst (inWord false true 5) = false ∧
      inStart (inWord false true 5) = true ∧ inRst (inWord false false 0) = false ∧
      inStart (inWord false false 0) = false := by simp [busyState]

theorem witness_IdleEdgeKeepsState : (doneState v4).busy = false := rfl

theorem witness_FoldAddsOffsetByFcsBitTen :
    (0x751#11).getLsbD 10 = true ∧ (0x051#11).getLsbD 10 = false ∧
      ((withWires { Datapath.low with w := Vector.replicate 10 661#11 } State.reset).dp.w[9]).toNat + 659
        < 2048 := by decide

/-- The digits of V4 (95_test_vectors.md section 2.3, reconstruction). -/
theorem witness_EveryDigitVectorIsReached :
    (v4Digits[0]).toNat % 2 = 0 ∧ (v4Digits[0]).toNat ≤ 1270 ∧
      (∀ (i : Nat) (h : i < 8), (v4Digits[i + 1]'(by omega)).toNat ≤ 1364) ∧
      (v4Digits[9]).toNat ≤ 661 ∧
      (v4Digits[0]).toNat / 2 + 636 *
        ([v4Digits[1], v4Digits[2], v4Digits[3], v4Digits[4], v4Digits[5], v4Digits[6], v4Digits[7],
          v4Digits[8]].foldr (fun c n => c.toNat + 1365 * n) (v4Digits[9]).toNat) < 2 ^ 102 := by
  decide

theorem witness_RomPairStructure :
    (rom2 = rom2 ∧ 36 = 36 ∧ 78 = 78) ∧ (rom5 = rom5 ∧ 636 = 636 ∧ 1287 = 1287) := by simp

theorem witness_LookupReadsRomEntry :
    (1286#11).toNat ≤ 1286 ∧ 1287 ≤ (1287#11).toNat ∧ (1287#11).toNat ≤ 1364 ∧
      1287 ≤ (1364#11).toNat ∧ (1364#11).toNat ≤ 1364 := by decide

theorem witness_ComplementByFcsBit :
    (0x751#11).getLsbD (9 - (9 : Fin 10).val) = true ∧ (0x751#11).getLsbD (9 - (2 : Fin 10).val) = false := by
  decide

theorem witness_BarMapWordsReadOrRefused :
    barEntryOf 0x7243#16 = some ⟨7, 2, 4, 3⟩ ∧ ∃ m, barMapOf barMapWords = some m :=
  ⟨by decide, barMap, by simp [barMap]⟩

/-- For BarsDetermineCharacters and InContractBarsDeterminePayload: equal bars do occur. -/
theorem witness_equal_bars :
    selectBars barMap v4Chars = selectBars barMap v4Chars ∧ inContract v4 = true ∧
      (encodeOf v4).bar = (encodeOf v4).bar := ⟨rfl, by decide, rfl⟩

theorem witness_EncodeIgnoresTopTwoBits :
    (0xC0000000000000000000000000#104).toNat % 2 ^ 102 = (0#104).toNat % 2 ^ 102 := by decide

theorem witness_StepKeepsHandshakeInv :
    ∃ t, step State.reset = .next t ∧ HandshakeInv State.reset ∧ LatencyBound State.reset :=
  ⟨State.reset, rfl, witness_idle_inv [], by simp [LatencyBound, State.reset]⟩

theorem witness_HostRunNeverFaults :
    HandshakeInv { State.reset with feed := [.cmd (inWord false true v4)] } ∧
      hostOnly { State.reset with feed := [.cmd (inWord false true v4)] } :=
  ⟨witness_idle_inv _, by simp [hostOnly, Slot.format]⟩

/-- For EncodeCompletesAfterLatency and, twice, for ResultsDependOnPayloadAlone. -/
theorem witness_EncodeCompletesAfterLatency :
    State.reset.busy = false ∧
      (List.replicate Config.encLatency (inWord false true 3)).length = Config.encLatency ∧
      (∀ w ∈ List.replicate Config.encLatency (inWord false true 3), rstLow w) ∧
      ∃ s : State, s.busy = false ∧
        s.feed = .cmd (inWord false true v4) ::
          ((List.replicate Config.encLatency (inWord false true 3)).map Slot.cmd ++ []) := by
  refine ⟨rfl, by simp, ?_, { State.reset with feed := _ }, rfl, rfl⟩
  intro w hw
  rw [(List.mem_replicate.1 hw).2]
  simp [rstLow]

theorem witness_ResultsStableWhileIdle :
    (doneState v4).busy = false ∧ (∀ w ∈ [inWord false false 1, inWord false false 2], idleInput w) ∧
      ({ doneState v4 with feed := [.cmd (inWord false false 1), .cmd (inWord false false 2)] } : State).feed =
        [inWord false false 1, inWord false false 2].map Slot.cmd ++ [] :=
  ⟨rfl, by simp [idleInput], rfl⟩

theorem witness_PayloadMattersOnlyWhenAccepted :
    inRst (inWord false true 1) = inRst (inWord false true 2) ∧
      inStart (inWord false true 1) = inStart (inWord false true 2) ∧
      ¬(inRst (inWord false true 1) = false ∧ inStart (inWord false true 1) = true ∧
        (busyState 1 v4).busy = false) := by simp [busyState]

theorem witness_DatapathRowsTouchNoRegister : (Instr.barA 0).format ≠ .inWord := by decide

theorem witness_CommandsChangeRegistersOnlyThen :
    (Instr.nop 0).format = .inWord ∧ exec (.nop 0) State.reset = .next State.reset := ⟨rfl, rfl⟩

/-- A state in which every result register holds a value. -/
theorem witness_PortsShowRegisters :
    (doneState v4).fcs = some (encodeOf v4).fcs ∧ (doneState v4).cw = some (encodeOf v4).cw ∧
      (doneState v4).chr = some (encodeOf v4).chr ∧ (doneState v4).bar = some (encodeOf v4).bar :=
  ⟨rfl, rfl, rfl, rfl⟩

theorem witness_ResultReadsNeedDone :
    (HandshakeInv State.reset ∧ State.reset.done = false) ∧
      (HandshakeInv (doneState v4) ∧ (doneState v4).done = true) :=
  ⟨⟨witness_idle_inv [], rfl⟩, witness_done_inv v4, rfl⟩

/-- The least and the greatest offset of each length but 0. -/
theorem witness_RoutingOffsetRanges :
    routingOffset [] = some 0 ∧ routingOffset (List.replicate 5 0) = some 1 ∧
      routingOffset (List.replicate 5 9) = some 100000 ∧
      routingOffset (List.replicate 9 0) = some 100001 ∧
      routingOffset (List.replicate 9 9) = some 1000100000 ∧
      routingOffset (List.replicate 11 0) = some 1000100001 ∧
      routingOffset (List.replicate 11 9) = some 101000100000 := by decide

/-- The largest merged payload (R10). -/
theorem witness_MergedPayloadsAreInContract :
    payloadOfDigits (List.replicate 20 9) (List.replicate 11 9) =
      some (BitVec.ofNat 104 5050005000054999999999999999999) := by decide

theorem witness_WaitEndsWithResults :
    HandshakeInv (busyState 2 v4) ∧ (busyState 2 v4).busy = true ∧ (busyState 2 v4).p = some v4 :=
  ⟨witness_busy_inv 2 (by decide) v4, rfl, rfl⟩

theorem witness_EncodeWaitReadAllPasses : State.reset.busy = false := rfl

end Sys2Proof.Tests
end

section
/-! SUPPORT. The host's side (R8 to R10): how large the value of a digit string, the routing offset
and the merged number can be. -/

namespace Sys2Proof.Machine

/-! ## Digit strings and the routing offset -/

theorem decimalOf_append_singleton (ds : List (Fin 10)) (d : Fin 10) :
    decimalOf (ds ++ [d]) = 10 * decimalOf ds + d.val := by
  simp [decimalOf]

theorem decimalOf_lt_pow_length (ds : List (Fin 10)) : decimalOf ds < 10 ^ ds.length := by
  induction ds using List.reverseRecOn with
  | nil => simp [decimalOf]
  | append_singleton ds d ih =>
    rw [decimalOf_append_singleton, List.length_append, List.length_singleton, Nat.pow_succ]
    omega

/-- All the offsets that a routing code can have (R8). -/
theorem routingOffset_eq_some {r : List (Fin 10)} {off : Nat} (h : routingOffset r = some off) :
    (r.length = 0 ∧ off = 0) ∨ (r.length = 5 ∧ off = decimalOf r + 1) ∨
      (r.length = 9 ∧ off = decimalOf r + 100001) ∨
      (r.length = 11 ∧ off = decimalOf r + 1000100001) := by
  unfold routingOffset at h
  split_ifs at h with h0 h5 h9 h11
  · exact .inl ⟨h0, (Option.some.inj h).symm⟩
  · exact .inr (.inl ⟨h5, (Option.some.inj h).symm⟩)
  · exact .inr (.inr (.inl ⟨h9, (Option.some.inj h).symm⟩))
  · exact .inr (.inr (.inr ⟨h11, (Option.some.inj h).symm⟩))

/-- R9: an offset lies in the range of its code's length. -/
theorem routingOffset_range {r : List (Fin 10)} {off : Nat} (h : routingOffset r = some off) :
    (r.length = 0 ∧ off = 0) ∨ (r.length = 5 ∧ 1 ≤ off ∧ off ≤ 100000) ∨
      (r.length = 9 ∧ 100001 ≤ off ∧ off ≤ 1000100000) ∨
      (r.length = 11 ∧ 1000100001 ≤ off ∧ off ≤ 101000100000) := by
  have hlt := decimalOf_lt_pow_length r
  rcases routingOffset_eq_some h with ⟨hr, ho⟩ | ⟨hr, ho⟩ | ⟨hr, ho⟩ | ⟨hr, ho⟩ <;>
    rw [hr] at hlt <;> omega

/-! ## The merge -/

/-- The merge's inputs and its number, when it gives one (R8). -/
theorem mergeOf_eq_some {t r : List (Fin 10)} {n : Nat} (h : mergeOf t r = some n) :
    ∃ t0 t1 tail off, t = t0 :: t1 :: tail ∧ tail.length = 18 ∧ routingOffset r = some off ∧
      n = ((off * 10 + t0.val) * 5 + t1.val) * 10 ^ 18 + decimalOf tail := by
  unfold mergeOf at h
  split at h
  · next t0 t1 tail off hoff =>
    split_ifs at h with hlen
    exact ⟨t0, t1, tail, off, rfl, hlen, hoff, (Option.some.inj h).symm⟩
  · cases h

/-- R10: the largest merged number. -/
theorem mergeOf_le {t r : List (Fin 10)} {n : Nat} (h : mergeOf t r = some n) :
    n ≤ 5050005000054999999999999999999 := by
  obtain ⟨t0, t1, tail, off, -, hlen, hoff, rfl⟩ := mergeOf_eq_some h
  have hoff_le : off ≤ 101000100000 := by have := routingOffset_range hoff; omega
  have htail : decimalOf tail < 10 ^ 18 := hlen ▸ decimalOf_lt_pow_length tail
  omega

theorem toNat_of_payloadOfDigits {t r : List (Fin 10)} {p : Payload}
    (h : payloadOfDigits t r = some p) : mergeOf t r = some p.toNat := by
  obtain ⟨n, hn, rfl⟩ := Option.map_eq_some_iff.1 h
  have hle := mergeOf_le hn
  rw [hn, BitVec.toNat_ofNat, Nat.mod_eq_of_lt (by omega)]

theorem inContract_iff {p : Payload} : inContract p = true ↔ p.toNat < contractBound := by
  simp [inContract]

/-! ## The obligations -/

/-- Settles O57: each length's digits are fewer than its power of ten. -/
theorem routingOffsetRanges : Obligations.RoutingOffsetRanges := fun _ _ => routingOffset_range

/-- Settles O58: the largest merged number is below both 2^104 and the contract's bound, so the
payload is that number. -/
theorem mergedPayloadsAreInContract : Obligations.MergedPayloadsAreInContract := by
  intro t r p h
  have hmerge := toNat_of_payloadOfDigits h
  have hle := mergeOf_le hmerge
  have hbound : 5050005000054999999999999999999 < contractBound := by decide
  exact ⟨hle, inContract_iff.2 (hle.trans_lt hbound), hmerge⟩

end Sys2Proof.Machine
end

section
/-! SUPPORT. What an edge of the command decoder does to an idle block and to a busy one, and the run
of a whole ENCODE from there (R97 to R99, R106). -/

namespace Sys2Proof.Machine

open Safety

/-! ## One edge -/

theorem step_of_decode {s : State} {i : Instr} (h : decode s.busy (fetch s) = .ok i) :
    step s = exec i (advance s) := by
  simp only [step, h]

theorem exec_nop_of_busy {x : Payload} {s : State} (h : s.busy = true) :
    exec (.nop x) s = busyEdge s := by
  simp only [exec, execNop, h, if_true]

/-- An accepting edge (R97). -/
theorem step_accept {s : State} {p : Payload} {rest : List Slot} (hb : s.busy = false)
    (hf : s.feed = .cmd (inWord false true p) :: rest) :
    step s = .next (acceptAction p (advance s)) := by
  have hd : decode s.busy (fetch s) = .ok (.encode p) := by
    simp [fetch_of_feed_cons hf, decode, decodeCommand, hb]
  rw [step_of_decode hd]
  exact requestEdge_of_idle hb

/-- While BUSY = 1 and RST = 0 the word presented does not matter (R98, R100). -/
theorem step_busy {s : State} {w : InWord} {rest : List Slot} (hb : s.busy = true)
    (hf : s.feed = .cmd w :: rest) (hw : rstLow w) : step s = busyEdge (advance s) := by
  have hrst : inRst w = false := hw
  cases hstart : inStart w with
  | true =>
    have hd : decode s.busy (fetch s) = .ok (.encodeIgnored (inPayload w)) := by
      simp [fetch_of_feed_cons hf, decode, decodeCommand, hb, hrst, hstart]
    rw [step_of_decode hd]
    exact requestEdge_of_busy hb
  | false =>
    have hd : decode s.busy (fetch s) = .ok (.nop (inPayload w)) := by
      simp [fetch_of_feed_cons hf, decode, decodeCommand, hrst, hstart]
    rw [step_of_decode hd]
    exact exec_nop_of_busy hb

/-! ## The edges of one ENCODE -/

/-- A busy block that is driven for as many edges as it has left completes at the last of them
(R98, R99). -/
theorem run_busy_completes {p : Payload} {rest : List Slot} {ws : List InWord} {s : State}
    (hb : s.busy = true) (hp : s.p = some p) (hpos : 1 ≤ s.cnt) (hlen : ws.length = s.cnt)
    (hws : ∀ w ∈ ws, rstLow w) (hf : s.feed = ws.map Slot.cmd ++ rest) :
    ∃ t, core.run s.cnt s = .next t ∧ t.busy = false ∧ t.done = true ∧ t.p = some p ∧
      holdsResults t (encodeOf p) ∧ t.feed = rest := by
  induction ws generalizing s with
  | nil => rw [List.length_nil] at hlen; omega
  | cons w ws ih =>
    obtain ⟨hw, hws⟩ := List.forall_mem_cons.1 hws
    have hstep := step_busy hb hf hw
    have htail : (advance s).feed = ws.map Slot.cmd ++ rest := by simp [hf]
    have hcnt : s.cnt = ws.length + 1 := hlen.symm
    rw [hcnt]
    rcases Nat.eq_zero_or_pos ws.length with hlast | hmore
    · rw [busyEdge_of_last (s := advance s) (by simp [hcnt, hlast]) hp] at hstep
      rw [hlast, core_run_succ_of_next _ hstep, core_run_zero]
      obtain rfl := List.length_eq_zero_iff.1 hlast
      exact ⟨_, rfl, rfl, rfl, hp, ⟨rfl, rfl, rfl, rfl⟩, htail⟩
    · rw [busyEdge_of_more (s := advance s) (by rw [advance_cnt]; omega)] at hstep
      have hleft : (countAction (advance s)).cnt = ws.length := by simp [hcnt]
      rw [core_run_succ_of_next _ hstep, ← hleft]
      exact ih hb hp (by omega) hleft.symm hws htail

/-- An ENCODE accepted now holds its results ENC_LATENCY edges later (R97 to R99, R106). -/
theorem run_encode_completes {s : State} {p : Payload} {ws : List InWord} {rest : List Slot}
    (hb : s.busy = false) (hlen : ws.length = Config.encLatency) (hws : ∀ w ∈ ws, rstLow w)
    (hf : s.feed = .cmd (inWord false true p) :: (ws.map Slot.cmd ++ rest)) :
    ∃ t, core.run (Config.encLatency + 1) s = .next t ∧ t.busy = false ∧ t.done = true ∧
      t.p = some p ∧ holdsResults t (encodeOf p) ∧ t.feed = rest := by
  rw [core_run_succ_of_next _ (step_accept hb hf)]
  exact run_busy_completes (s := acceptAction p (advance s)) rfl rfl (Nat.le_add_left 1 _) hlen hws
    (by simp [hf])

/-! ## The obligation -/

/-- Settles O51: both runs end with the results of Encode, a function of the payload alone. -/
theorem resultsDependOnPayloadAlone : Obligations.ResultsDependOnPayloadAlone := by
  intro s s' p ws ws' rest rest' hb hb' hlen hlen' hws hws' hf hf'
  obtain ⟨t, hrun, -, hdone, -, ⟨hfcs, hcw, hchr, hbar⟩, -⟩ := run_encode_completes hb hlen hws hf
  obtain ⟨t', hrun', -, -, -, ⟨hfcs', hcw', hchr', hbar'⟩, -⟩ :=
    run_encode_completes hb' hlen' hws' hf'
  exact ⟨t, t', hrun, hrun', hdone, by simp [hfcs], hfcs.trans hfcs'.symm, hcw.trans hcw'.symm,
    hchr.trans hchr'.symm, hbar.trans hbar'.symm⟩

end Sys2Proof.Machine
end

section
/-! SUPPORT. The values of the codewords before and after the fold (R79 to R81). -/

namespace Sys2Proof.Machine

/-! ## The digits -/

theorem digit_zero (data : Nat) : digit data 0 = 2 * (data % 636) := rfl

theorem digit_succ {i : Nat} (data : Nat) (h : i < 8) :
    digit data (i + 1) = data / 636 / 1365 ^ i % 1365 := by
  rw [digit, if_pos h, quotient_eq, radix]

theorem digit_nine (data : Nat) : digit data 9 = data / 636 / 1365 ^ 8 := by
  rw [digit, if_neg (by decide), quotient_eq]

theorem digit_nine_le {data : Nat} (h : data < 2 ^ 102) : digit data 9 ≤ 661 := by
  rw [digit_nine]
  omega

theorem digit_le {data i : Nat} (h : data < 2 ^ 102) (hi : i < 10) : digit data i ≤ 1364 := by
  match i with
  | 0 => rw [digit_zero]; omega
  | i + 1 =>
    by_cases hlt : i < 8
    · rw [digit_succ data hlt]
      exact Nat.le_of_lt_succ (Nat.mod_lt _ (by decide))
    · obtain rfl : i = 8 := by omega
      exact (digit_nine_le h).trans (by decide)

/-- The codeword registers hold the digits exactly (R81). -/
theorem toNat_decomposeOf_getElem (data : Data) {i : Nat} (hi : i < 10) :
    ((decomposeOf data)[i]).toNat = digit data.toNat i := by
  have hle := digit_le data.isLt hi
  rw [decomposeOf_getElem, BitVec.toNat_ofNat, Nat.mod_eq_of_lt (by omega)]

/-! ## The fold -/

/-- The sum of a FOLD is exact for every W[9] that an ENCODE forms (R80, R81). -/
theorem toNat_foldOf {w : Codeword} (h : w.toNat ≤ 661) : (foldOf w).toNat = w.toNat + 659 := by
  rw [foldOf, BitVec.toNat_add, foldOffset, BitVec.toNat_ofNat]
  omega

/-- Codeword 9 after the fold (R80). -/
theorem toNat_codewordsOf_decomposeOf_nine (f : Fcs) (data : Data) :
    ((codewordsOf f (decomposeOf data))[9]).toNat =
      digit data.toNat 9 + if foldSelected f then 659 else 0 := by
  have hw := toNat_decomposeOf_getElem data (i := 9) (by decide)
  rw [codewordsOf_getElem_last]
  split
  · rw [toNat_foldOf (hw ▸ digit_nine_le data.isLt), hw]
  · rw [hw, Nat.add_zero]

/-- Every codeword of an ENCODE is legal (R81). -/
theorem codewordsOf_decomposeOf_le (f : Fcs) (data : Data) {i : Nat} (hi : i < 10) :
    ((codewordsOf f (decomposeOf data))[i]).toNat ≤ 1364 := by
  by_cases hlt : i < 9
  · rw [codewordsOf_getElem_of_lt f _ i hlt, toNat_decomposeOf_getElem data hi]
    exact digit_le data.isLt hi
  · obtain rfl : i = 9 := by omega
    have hw := digit_nine_le data.isLt
    rw [toNat_codewordsOf_decomposeOf_nine]
    split <;> omega

end Sys2Proof.Machine
end

section
/-! SUPPORT. A datapath pass as a function of the wires alone: what each stage writes, and what each
group of stages comes to (R2, R57). -/

namespace Sys2Proof.Machine

/-! ## Writing some elements of an array, one at a time -/

/-- `v` with element i set to `f i` for each listed i. -/
def setEach {α : Type} {n : Nat} (f : Fin n → α) (is : List (Fin n)) (v : Vector α n) : Vector α n :=
  is.foldl (fun u (i : Fin n) => u.set i (f i)) v

theorem setEach_nil {α : Type} {n : Nat} (f : Fin n → α) (v : Vector α n) : setEach f [] v = v := rfl

theorem setEach_cons {α : Type} {n : Nat} (f : Fin n → α) (i : Fin n) (is : List (Fin n))
    (v : Vector α n) : setEach f (i :: is) v = setEach f is (v.set i (f i)) := rfl

theorem setEach_getElem {α : Type} {n : Nat} (f : Fin n → α) (is : List (Fin n)) (v : Vector α n)
    (j : Fin n) : (setEach f is v)[j] = if j ∈ is then f j else v[j] := by
  induction is generalizing v with
  | nil => simp [setEach_nil]
  | cons i is ih =>
    rw [setEach_cons, ih]
    by_cases hij : i = j
    · simp [hij]
    · have : j ≠ i := Ne.symm hij
      simp [this, Vector.getElem_set_ne, Fin.val_ne_of_ne hij]

/-- Every element written: the old array does not matter. -/
theorem setEach_finRange {α : Type} {n : Nat} (f : Fin n → α) (v : Vector α n) :
    setEach f (List.finRange n) v = Vector.ofFn f := by
  ext j hj
  simpa using setEach_getElem f (List.finRange n) v ⟨j, hj⟩

/-! ## One stage -/

/-- The wires after a stage is presented with its word. -/
def stageWires (p : Payload) (d : Datapath) : Stage → Datapath
  | .fcsgen => { d with fcs := fcsGen p }
  | .truncate => { d with data := truncateOf p }
  | .decompose => { d with w := decomposeOf d.data, cw := (decomposeOf d.data).set 9 d.cw[9] }
  | .fold => { d with cw := d.cw.set 9 (if foldSelected d.fcs then foldOf d.w[9] else d.w[9]) }
  | .lut i => { d with l := d.l.set i (lookup d.cw[i]) }
  | .comp i => { d with q := d.q.set i (charOf d.fcs i d.l[i]) }
  | .reverse => { d with chr := reverseOf d.q }
  | .bar i => { d with bar := d.bar.set i (selectBar barMap[i] d.chr) }

/-- Every codeword on the wires is legal (R49). -/
def legalCodewords (d : Datapath) : Prop := ∀ i : CwIndex, (d.cw[i]).toNat ≤ 1364

theorem payloadData_setWidth (d : Data) : payloadData (d.setWidth 104) = d := by
  apply BitVec.eq_of_toNat_eq
  simp [payloadData]
  omega

/-- The lookup row that a legal codeword selects (R84). -/
theorem decodeLut_exec {i : CwIndex} {c : Codeword} (hc : c.toNat ≤ 1364) (s : State) :
    ∃ j, decodeLut i c = .ok j ∧
      exec j s = .next (withWires { s.dp with l := s.dp.l.set i (lookup c) } s) := by
  by_cases h : c.toNat ≤ 1286
  · exact ⟨.lut5 i c, by simp [decodeLut, selectsRom5, h], by rw [lookup_of_le h]; rfl⟩
  · have hgt : 1286 < c.toNat := by omega
    exact ⟨.lut2 i c, by simp [decodeLut, selectsRom5, selectsRom2, h, hc]; omega,
      by rw [lookup_of_gt hgt]; rfl⟩

/-- The symbol row that a BAR word selects writes that word (R92). -/
theorem exec_decodeBar (i : BarIndex) (b : Bar) (s : State) :
    exec (decodeBar i b) s = .next (withWires { s.dp with bar := s.dp.bar.set i b } s) := by
  rw [← withBar_eq]
  unfold decodeBar
  split_ifs with h0 h1 h2
  · rw [h0]; rfl
  · rw [h1]; rfl
  · rw [h2]; rfl
  · obtain rfl : b = 3#2 := by revert b; decide
    rfl

/-- A stage presented with its word executes an instruction that writes the stage's wires. -/
theorem decode_stageWord {p : Payload} {s : State} {g : Stage}
    (hlut : ∀ i, g = .lut i → (s.dp.cw[i]).toNat ≤ 1364) :
    ∃ j, decode s.busy (stageWord p s.dp g) = .ok j ∧
      exec j s = .next (withWires (stageWires p s.dp g) s) := by
  cases g with
  | fcsgen => exact ⟨_, rfl, rfl⟩
  | truncate => exact ⟨_, rfl, rfl⟩
  | decompose =>
    refine ⟨_, rfl, ?_⟩
    simp only [exec, execDecompose, payloadData_setWidth]
    rfl
  | fold =>
    refine ⟨_, rfl, ?_⟩
    cases h : foldSelected s.dp.fcs <;> simp [exec, execFold, execNofold, stageWires, h]
  | lut i => exact decodeLut_exec (hlut i rfl) s
  | comp i =>
    refine ⟨_, rfl, ?_⟩
    cases h : complementSelected s.dp.fcs i <;>
      simp [exec, execComplement, execPass, stageWires, charOf, h]
  | reverse => exact ⟨_, rfl, rfl⟩
  | bar i => exact ⟨_, rfl, exec_decodeBar i _ s⟩

theorem passFrom_cons {p : Payload} {g : Stage} {s : State} (gs : List Stage)
    (hlut : ∀ i, g = .lut i → (s.dp.cw[i]).toNat ≤ 1364) :
    passFrom p (g :: gs) s = passFrom p gs (withWires (stageWires p s.dp g) s) := by
  obtain ⟨j, hd, he⟩ := decode_stageWord hlut
  rw [passFrom, step_present hd, he]

/-! ## The decomposer's stages -/

/-- The stages of the FCS generator and the decomposer (R72, R78 to R80). -/
def headStages : List Stage := [.fcsgen, .truncate, .decompose, .fold]

/-- The stages of the mapper and the selector (R87, R93). -/
def tailStages : List Stage :=
  ((List.finRange 10).flatMap fun i => [Stage.lut i, Stage.comp i]) ++
    [.reverse] ++ (List.finRange 65).map Stage.bar

theorem stages_eq : stages = headStages ++ tailStages := by
  simp [stages, headStages, tailStages]

/-- The wires after the FCS generator and the decomposer. -/
def decomposedWires (p : Payload) (d : Datapath) : Datapath :=
  { d with
    fcs := fcsGen p, data := truncateOf p, w := decomposeOf (truncateOf p)
    cw := codewordsOf (fcsGen p) (decomposeOf (truncateOf p)) }

/-- DECOMPOSE's codewords with the one that the fold select writes are the codewords (R79, R80). -/
theorem set_nine_foldSelected (f : Fcs) (w : Vector Codeword 10) (c : Codeword) :
    (w.set 9 c).set 9 (if foldSelected f then foldOf w[9] else w[9]) = codewordsOf f w := by
  rw [codewordsOf]
  split <;> simp

theorem foldl_headStages (p : Payload) (d : Datapath) :
    headStages.foldl (stageWires p) d = decomposedWires p d := by
  simp only [headStages, List.foldl_cons, List.foldl_nil, stageWires, set_nine_foldSelected,
    decomposedWires]

theorem passFrom_headStages (p : Payload) (gs : List Stage) (s : State) :
    passFrom p (headStages ++ gs) s = passFrom p gs (withWires (decomposedWires p s.dp) s) := by
  rw [← foldl_headStages]
  simp only [headStages, List.cons_append, List.nil_append]
  rw [passFrom_cons _ (by simp), passFrom_cons _ (by simp), passFrom_cons _ (by simp),
    passFrom_cons _ (by simp)]
  rfl

theorem legalCodewords_decomposedWires (p : Payload) (d : Datapath) :
    legalCodewords (decomposedWires p d) :=
  fun i => codewordsOf_decomposeOf_le (fcsGen p) (truncateOf p) i.isLt

/-! ## The mapper's and the selector's stages -/

theorem stageWires_cw {p : Payload} {d : Datapath} {g : Stage} (hd : g ≠ .decompose)
    (hf : g ≠ .fold) : (stageWires p d g).cw = d.cw := by
  cases g with
  | decompose => exact absurd rfl hd
  | fold => exact absurd rfl hf
  | _ => rfl

theorem tailStages_keep_codewords : ∀ g ∈ tailStages, g ≠ .decompose ∧ g ≠ .fold := by
  intro g hg
  simp only [tailStages, List.mem_append, List.mem_flatMap, List.mem_map, List.mem_cons,
    List.not_mem_nil, or_false] at hg
  rcases hg with (⟨_, _, rfl | rfl⟩ | rfl) | ⟨_, _, rfl⟩ <;> exact ⟨nofun, nofun⟩

/-- On legal codewords the stages after the fold never stop. -/
theorem passFrom_of_legalCodewords {p : Payload} {gs : List Stage} {s : State}
    (hgs : ∀ g ∈ gs, g ≠ .decompose ∧ g ≠ .fold) (hcw : legalCodewords s.dp) :
    passFrom p gs s = .next (withWires (gs.foldl (stageWires p) s.dp) s) := by
  induction gs generalizing s with
  | nil => rfl
  | cons g gs ih =>
    obtain ⟨⟨hd, hf⟩, hgs⟩ := List.forall_mem_cons.1 hgs
    have hcw' : legalCodewords (stageWires p s.dp g) := by
      rw [legalCodewords, stageWires_cw hd hf]; exact hcw
    rw [passFrom_cons gs fun i _ => hcw i, ih hgs hcw']
    rfl

theorem foldl_lut_comp (p : Payload) (is : List CwIndex) (d : Datapath) :
    (is.flatMap fun i => [Stage.lut i, Stage.comp i]).foldl (stageWires p) d =
      { d with
        l := setEach (fun i => lookup d.cw[i]) is d.l
        q := setEach (fun i => charOf d.fcs i (lookup d.cw[i])) is d.q } := by
  induction is generalizing d with
  | nil => rfl
  | cons i is ih =>
    rw [List.flatMap_cons, List.foldl_append, ih]
    simp [stageWires, setEach_cons]

theorem foldl_bar (p : Payload) (is : List BarIndex) (d : Datapath) :
    (is.map Stage.bar).foldl (stageWires p) d =
      { d with bar := setEach (fun i => selectBar barMap[i] d.chr) is d.bar } := by
  induction is generalizing d with
  | nil => rfl
  | cons i is ih =>
    rw [List.map_cons, List.foldl_cons, ih]
    rfl

/-- The wires after the mapper and the selector (R87, R93). -/
theorem foldl_tailStages (p : Payload) (d : Datapath) :
    tailStages.foldl (stageWires p) d =
      { d with
        l := Vector.ofFn fun i => lookup d.cw[i]
        q := Vector.ofFn fun i => charOf d.fcs i (lookup d.cw[i])
        chr := mapChars d.cw d.fcs
        bar := selectBars barMap (mapChars d.cw d.fcs) } := by
  simp only [tailStages, List.foldl_append, foldl_lut_comp, foldl_bar, List.foldl_cons,
    List.foldl_nil, stageWires, setEach_finRange]
  rfl

/-! ## The obligation -/

/-- Settles O42: the wires that the stages in order come to carry the results of Encode, and every
stage's word decodes because the codewords of an ENCODE are legal. -/
theorem datapathPassComputesEncode : Obligations.DatapathPassComputesEncode := by
  intro p s
  refine ⟨tailStages.foldl (stageWires p) (decomposedWires p s.dp), ?_, ?_⟩
  · rw [pass, stages_eq, passFrom_headStages,
      passFrom_of_legalCodewords tailStages_keep_codewords (legalCodewords_decomposedWires p s.dp)]
    rfl
  · rw [foldl_tailStages]
    rfl

end Sys2Proof.Machine
end

section
/-! SUPPORT. The entries of the ROMs: their population counts, and no entry twice (R68). -/

namespace Sys2Proof.Machine

/-! ## Population counts -/

theorem popcount_of_mem_rom5 {v : Character} (h : v ∈ rom5) : popcount v = 5 := by
  have hall : (rom5.all fun v => popcount v == 5) = true := by decide +kernel
  exact eq_of_beq (List.all_eq_true.1 hall v h)

theorem popcount_of_mem_rom2 {v : Character} (h : v ∈ rom2) : popcount v = 2 := by
  have hall : (rom2.all fun v => popcount v == 2) = true := by decide +kernel
  exact eq_of_beq (List.all_eq_true.1 hall v h)

theorem complementOf_eq_not (v : Character) : complementOf v = ~~~v := BitVec.xor_allOnes

theorem complementOf_complementOf (v : Character) : complementOf (complementOf v) = v := by
  rw [complementOf_eq_not, complementOf_eq_not, BitVec.not_not]

/-- The complement swaps set and clear bits (R85, R88). -/
theorem popcount_complementOf_add (v : Character) : popcount (complementOf v) + popcount v = 13 := by
  have h : ∀ ps : List Nat, (∀ pos ∈ ps, pos < 13) →
      ps.foldr (fun pos n => ((complementOf v).getLsbD pos).toNat + n) 0 +
        ps.foldr (fun pos n => (v.getLsbD pos).toNat + n) 0 = ps.length := by
    intro ps hps
    induction ps with
    | nil => rfl
    | cons pos ps ih =>
      obtain ⟨hpos, hps⟩ := List.forall_mem_cons.1 hps
      have hbit : ((complementOf v).getLsbD pos).toNat + (v.getLsbD pos).toNat = 1 := by
        rw [complementOf_eq_not, BitVec.getLsbD_not, decide_eq_true hpos]
        cases v.getLsbD pos <;> rfl
      have := ih hps
      simp only [List.foldr_cons, List.length_cons]
      omega
  exact h (List.range 13) fun _ => List.mem_range.1

/-! ## No entry twice -/

/-- Whether no number of the list is a set bit of `seen` or occurs earlier in the list: one pass over
the list, where comparing every two entries is too long to evaluate. -/
def newNumbers (seen : Nat) : List Nat → Bool
  | [] => true
  | x :: xs => !seen.testBit x && newNumbers (seen ||| 1 <<< x) xs

theorem nodup_of_newNumbers {seen : Nat} {xs : List Nat} (h : newNumbers seen xs = true) :
    xs.Nodup ∧ ∀ x ∈ xs, seen.testBit x = false := by
  induction xs generalizing seen with
  | nil => exact ⟨List.nodup_nil, nofun⟩
  | cons x xs ih =>
    rw [newNumbers, Bool.and_eq_true, Bool.not_eq_true'] at h
    obtain ⟨hx, hxs⟩ := h
    obtain ⟨hnodup, hnew⟩ := ih hxs
    have hnew' : ∀ y ∈ xs, seen.testBit y = false ∧ x ≠ y := by
      simpa [Nat.testBit_or, Nat.shiftLeft_eq, Nat.testBit_two_pow] using hnew
    exact ⟨List.nodup_cons.2 ⟨fun hmem => (hnew' x hmem).2 rfl, hnodup⟩,
      List.forall_mem_cons.2 ⟨hx, fun y hy => (hnew' y hy).1⟩⟩

theorem rom2_nodup : rom2.Nodup := by
  have h : newNumbers 0 (rom2.map BitVec.toNat) = true := by decide +kernel
  exact (nodup_of_newNumbers h).1.of_map

theorem rom5_nodup : rom5.Nodup := by
  have h : newNumbers 0 (rom5.map BitVec.toNat) = true := by decide +kernel
  exact (nodup_of_newNumbers h).1.of_map

/-! ## The character of a legal codeword -/

/-- R88: the population count says which ROM a character came from. -/
theorem popcount_lookup {c : Codeword} (hc : c.toNat ≤ 1364) :
    popcount (lookup c) = if c.toNat ≤ 1286 then 5 else 2 := by
  split
  · next h =>
    rw [lookup_of_le h, rom5Read_eq h]
    exact popcount_of_mem_rom5 (List.getElem_mem _)
  · next h =>
    rw [lookup_of_gt (by omega), rom2Read_eq (by omega) hc]
    exact popcount_of_mem_rom2 (List.getElem_mem _)

theorem lookup_injective {c c' : Codeword} (hc : c.toNat ≤ 1364) (hc' : c'.toNat ≤ 1364)
    (h : lookup c = lookup c') : c = c' := by
  have hpop := congrArg popcount h
  rw [popcount_lookup hc, popcount_lookup hc'] at hpop
  apply BitVec.eq_of_toNat_eq
  by_cases hle : c.toNat ≤ 1286
  · have hle' : c'.toNat ≤ 1286 := by by_contra hgt; simp [hle, hgt] at hpop
    rw [lookup_of_le hle, lookup_of_le hle', rom5Read_eq hle, rom5Read_eq hle'] at h
    exact (rom5_nodup.getElem_inj_iff).1 h
  · have hgt' : ¬c'.toNat ≤ 1286 := by intro hle'; simp [hle, hle'] at hpop
    rw [lookup_of_gt (by omega), lookup_of_gt (by omega), rom2Read_eq (by omega) hc,
      rom2Read_eq (by omega) hc'] at h
    have := (rom2_nodup.getElem_inj_iff).1 h
    omega

/-- R88: a character tells whether it was complemented, and its codeword. -/
theorem charOf_lookup_injective {f f' : Fcs} {i : Fin 10} {c c' : Codeword}
    (hc : c.toNat ≤ 1364) (hc' : c'.toNat ≤ 1364)
    (h : charOf f i (lookup c) = charOf f' i (lookup c')) :
    complementSelected f i = complementSelected f' i ∧ c = c' := by
  have hpop := congrArg popcount h
  have hle : popcount (lookup c) ≤ 5 := by rw [popcount_lookup hc]; split <;> decide
  have hle' : popcount (lookup c') ≤ 5 := by rw [popcount_lookup hc']; split <;> decide
  have hsum := popcount_complementOf_add (lookup c)
  have hsum' := popcount_complementOf_add (lookup c')
  unfold charOf at h hpop
  cases hs : complementSelected f i <;> cases hs' : complementSelected f' i <;>
    simp only [hs, hs', if_true, Bool.false_eq_true, if_false] at h hpop
  · exact ⟨rfl, lookup_injective hc hc' h⟩
  · omega
  · omega
  · have hl := congrArg complementOf h
    rw [complementOf_complementOf, complementOf_complementOf] at hl
    exact ⟨rfl, lookup_injective hc hc' hl⟩

end Sys2Proof.Machine
end

section
/-! SUPPORT. From the bars back to the payload: the characters from the bars (R94), the FCS bits and
the codewords from the characters (R88), the payload from the codewords (R82). -/

namespace Sys2Proof.Machine

/-! ## The characters from the bars -/

/-- With the default bar map (log entry 9) every bit of every character drives a bar half (R91). -/
theorem barMap_drives_every_bit (k : Fin 10) (pos : Fin 13) :
    ∃ i : BarIndex, (barMap[i].dscChr = k ∧ barMap[i].dscPos = pos) ∨
      (barMap[i].ascChr = k ∧ barMap[i].ascPos = pos) := by
  revert k pos
  decide +kernel

theorem barWord_inj {a d a' d' : Bool} (h : barWord a d = barWord a' d') : a = a' ∧ d = d' := by
  revert a d a' d'
  decide

/-- Equal bars have equal halves (R92). -/
theorem ascBit_dscBit_of_selectBars_eq {m : BarMap} {c c' : Vector Character 10}
    (h : selectBars m c = selectBars m c') (i : BarIndex) :
    ascBit m[i] c = ascBit m[i] c' ∧ dscBit m[i] c = dscBit m[i] c' := by
  have hi : (selectBars m c)[i.val] = (selectBars m c')[i.val] := by rw [h]
  rw [selectBars_getElem, selectBars_getElem] at hi
  exact barWord_inj hi

/-- R94: with the default bar map the bars determine the characters. -/
theorem selectBars_barMap_injective {c c' : Vector Character 10}
    (h : selectBars barMap c = selectBars barMap c') : c = c' := by
  ext k hk pos hpos
  obtain ⟨i, ⟨hchr, hp⟩ | ⟨hchr, hp⟩⟩ := barMap_drives_every_bit ⟨k, hk⟩ ⟨pos, hpos⟩ <;>
    obtain ⟨hasc, hdsc⟩ := ascBit_dscBit_of_selectBars_eq h i
  · rw [dscBit, dscBit, hchr, hp] at hdsc
    exact hdsc
  · rw [ascBit, ascBit, hchr, hp] at hasc
    exact hasc

/-! ## The codewords from the characters -/

/-- Whatever the FCS, the characters determine legal codewords (R87, R88). -/
theorem mapChars_injective {cw cw' : Vector Codeword 10} {f f' : Fcs}
    (hcw : ∀ (i : Nat) (hi : i < 10), cw[i].toNat ≤ 1364)
    (hcw' : ∀ (i : Nat) (hi : i < 10), cw'[i].toNat ≤ 1364)
    (h : mapChars cw f = mapChars cw' f') : cw = cw' := by
  ext1 i hi
  have hk : (mapChars cw f)[9 - i] = (mapChars cw' f')[9 - i] := by rw [h]
  have hi9 : 9 - (9 - i) = i := by omega
  simp only [mapChars_getElem, hi9] at hk
  exact (charOf_lookup_injective (hcw i hi) (hcw' i hi) hk).2

/-! ## The payload from the codewords -/

/-- In contract W[9] is below the fold offset, so a folded codeword 9 shows (R10, R81). -/
theorem digit_nine_lt_of_lt {data : Nat} (h : data < contractBound) : digit data 9 < 659 := by
  rw [digit_nine, Nat.div_div_eq_div_mul]
  exact Nat.div_lt_of_lt_mul (by rw [Nat.mul_comm]; exact h)

/-- R82: the digits determine the number they were taken from. -/
theorem eq_of_digit_eq {m n : Nat} (h : ∀ i < 10, digit m i = digit n i) : m = n := by
  have hquot : ∀ k ≤ 8, m / 636 / 1365 ^ (8 - k) = n / 636 / 1365 ^ (8 - k) := by
    intro k hk
    induction k with
    | zero => simpa [digit_nine] using h 9 (by decide)
    | succ k ih =>
      have hd := h (8 - (k + 1) + 1) (by omega)
      rw [digit_succ _ (by omega), digit_succ _ (by omega)] at hd
      have hq := ih (by omega)
      have hs : 8 - k = 8 - (k + 1) + 1 := by omega
      rw [hs, Nat.pow_succ, ← Nat.div_div_eq_div_mul, ← Nat.div_div_eq_div_mul] at hq
      omega
  have hq := hquot 8 le_rfl
  have h0 := h 0 (by decide)
  simp only [Nat.sub_self, Nat.pow_zero, Nat.div_one, digit_zero] at hq h0
  omega

theorem toNat_truncateOf_of_inContract {p : Payload} (h : inContract p = true) :
    (truncateOf p).toNat = p.toNat := by
  have hlt : p.toNat < contractBound := inContract_iff.1 h
  have hbound : contractBound < 2 ^ 102 := by decide
  rw [truncateOf, payloadData, BitVec.extractLsb'_toNat, Nat.shiftRight_zero,
    Nat.mod_eq_of_lt (hlt.trans hbound)]

/-- In contract the codewords determine the digits: codeword 9 is W[9] exactly if it is below the fold
offset (R80, R81). -/
theorem digit_eq_of_codewordsOf_eq {f f' : Fcs} {d d' : Data} (hd : d.toNat < contractBound)
    (hd' : d'.toNat < contractBound)
    (h : codewordsOf f (decomposeOf d) = codewordsOf f' (decomposeOf d')) :
    ∀ i < 10, digit d.toNat i = digit d'.toNat i := by
  intro i hi
  by_cases hlt : i < 9
  · have hcw : (codewordsOf f (decomposeOf d))[i] = (codewordsOf f' (decomposeOf d'))[i] := by rw [h]
    rw [codewordsOf_getElem_of_lt f _ i hlt, codewordsOf_getElem_of_lt f' _ i hlt] at hcw
    rw [← toNat_decomposeOf_getElem d hi, ← toNat_decomposeOf_getElem d' hi, hcw]
  · obtain rfl : i = 9 := by omega
    have hcw := toNat_codewordsOf_decomposeOf_nine f d
    rw [h, toNat_codewordsOf_decomposeOf_nine] at hcw
    have hw := digit_nine_lt_of_lt hd
    have hw' := digit_nine_lt_of_lt hd'
    split at hcw <;> split at hcw <;> omega

/-! ## The obligation -/

/-- Settles O44: from the bars to the characters, the codewords, the digits and the payload. -/
theorem inContractBarsDeterminePayload : Obligations.InContractBarsDeterminePayload := by
  intro p q hp hq hbar
  have hdata := toNat_truncateOf_of_inContract hp
  have hdata' := toNat_truncateOf_of_inContract hq
  have hchr := selectBars_barMap_injective hbar
  have hcw := mapChars_injective (fun _ => codewordsOf_decomposeOf_le _ _)
    (fun _ => codewordsOf_decomposeOf_le _ _) hchr
  have hdigit := digit_eq_of_codewordsOf_eq (hdata.trans_lt (inContract_iff.1 hp))
    (hdata'.trans_lt (inContract_iff.1 hq)) hcw
  apply BitVec.eq_of_toNat_eq
  rw [← hdata, ← hdata']
  exact eq_of_digit_eq hdigit

end Sys2Proof.Machine
end

section
/-! SUPPORT. What each register transfer does to the results and to the handshake invariant, and from
that what every instruction and every step keeps (R20 to R30, R97 to R99, R118). -/

namespace Sys2Proof.Machine

open Safety

/-! ## The results at reset and after each register transfer -/

theorem noResults_reset : noResults State.reset := ⟨rfl, rfl, rfl, rfl⟩

theorem noResults_resetAction (s : State) : noResults (resetAction s) := ⟨rfl, rfl, rfl, rfl⟩

theorem noResults_acceptAction (x : Payload) (s : State) : noResults (acceptAction x s) :=
  ⟨rfl, rfl, rfl, rfl⟩

theorem holdsResults_completeAction (r : Results) (s : State) :
    holdsResults (completeAction r s) r := ⟨rfl, rfl, rfl, rfl⟩

/-! ## The handshake invariant after each register transfer -/

/-- The invariant says nothing of the feed. -/
theorem handshakeInv_advance {s : State} : HandshakeInv (advance s) ↔ HandshakeInv s := Iff.rfl

/-- The invariant says nothing of the wires. -/
theorem handshakeInv_withWires {d : Datapath} {s : State} :
    HandshakeInv (withWires d s) ↔ HandshakeInv s := Iff.rfl

/-- An idle block without results meets the invariant, whatever CNT holds (R29, R30). -/
theorem handshakeInv_of_idle {s : State} (hb : s.busy = false) (hd : s.done = false)
    (hr : noResults s) : HandshakeInv s :=
  ⟨by simp [hd], fun _ => hr, by simp [hb]⟩

theorem handshakeInv_resetAction (s : State) : HandshakeInv (resetAction s) :=
  handshakeInv_of_idle rfl rfl (noResults_resetAction s)

theorem handshakeInv_acceptAction (x : Payload) (s : State) : HandshakeInv (acceptAction x s) :=
  ⟨nofun, fun _ => noResults_acceptAction x s, fun _ => ⟨rfl, rfl, Nat.le_add_left 1 _⟩⟩

theorem handshakeInv_completeAction {p : Payload} {s : State} (hp : s.p = some p) :
    HandshakeInv (completeAction (encodeOf p) s) :=
  ⟨fun _ => ⟨p, hp, holdsResults_completeAction _ s⟩, nofun, nofun⟩

/-- A count that does not complete leaves CNT at least 1 (R98). -/
theorem handshakeInv_countAction {s : State} (h : HandshakeInv s) (hc : 1 < s.cnt) :
    HandshakeInv (countAction s) := by
  obtain ⟨hdone, hnone, hbusy⟩ := h
  refine ⟨hdone, hnone, fun hb => ?_⟩
  obtain ⟨hd, hp, -⟩ := hbusy hb
  exact ⟨hd, hp, Nat.le_sub_one_of_lt hc⟩

/-! ## Every instruction and every step -/

theorem busyEdge_keeps_handshakeInv {s t : State} (h : busyEdge s = .next t)
    (hs : HandshakeInv s) : HandshakeInv t := by
  obtain ⟨p, -, hp, rfl⟩ | ⟨hc, rfl⟩ := busyEdge_next_iff.1 h
  · exact handshakeInv_completeAction hp
  · exact handshakeInv_countAction hs hc

theorem exec_keeps_handshakeInv {i : Instr} {s t : State} (h : exec i s = .next t)
    (hs : HandshakeInv s) : HandshakeInv t := by
  obtain ⟨_, _, -, rfl⟩ | ⟨x, -, -, rfl⟩ | ⟨-, -, hedge⟩ | ⟨-, -, rfl⟩ | ⟨-, d, rfl⟩ :=
    exec_next_cases h
  · exact handshakeInv_resetAction s
  · exact handshakeInv_acceptAction x s
  · exact busyEdge_keeps_handshakeInv hedge hs
  · exact hs
  · exact handshakeInv_withWires.2 hs

theorem step_keeps_handshakeInv {s t : State} (h : step s = .next t) (hs : HandshakeInv s) :
    HandshakeInv t := by
  obtain ⟨_, -, hexec⟩ := step_next_iff.1 h
  exact exec_keeps_handshakeInv hexec (handshakeInv_advance.2 hs)

/-- CNT starts at ENC_LATENCY (R97) and only counts down while BUSY = 1 (R98). -/
theorem exec_keeps_latencyBound {i : Instr} {s t : State} (h : exec i s = .next t)
    (hs : LatencyBound s) : LatencyBound t := by
  obtain ⟨_, _, -, rfl⟩ | ⟨x, -, -, rfl⟩ | ⟨-, hb, hedge⟩ | ⟨-, -, rfl⟩ | ⟨-, d, rfl⟩ :=
    exec_next_cases h
  · exact nofun
  · exact fun _ => Nat.le_refl _
  · obtain ⟨p, -, -, rfl⟩ | ⟨-, rfl⟩ := busyEdge_next_iff.1 hedge
    · exact nofun
    · exact fun _ => (Nat.sub_le _ 1).trans (hs hb)
  · exact hs
  · exact hs

theorem step_keeps_latencyBound {s t : State} (h : step s = .next t) (hs : LatencyBound s) :
    LatencyBound t := by
  obtain ⟨_, -, hexec⟩ := step_next_iff.1 h
  exact exec_keeps_latencyBound hexec hs

/-! ## The obligations -/

/-- Settles O45: each register transfer that a step can make keeps the invariant and the bound. -/
theorem stepKeepsHandshakeInv : Obligations.StepKeepsHandshakeInv :=
  fun _ _ h => ⟨step_keeps_handshakeInv h, step_keeps_latencyBound h⟩

/-- Settles O53, by the cases of a command: a busy edge completes or counts, and a count or an idle
edge keeps all seven registers. -/
theorem commandsChangeRegistersOnlyThen : Obligations.CommandsChangeRegistersOnlyThen := by
  intro i s t hi h
  obtain ⟨start, x, rfl, rfl⟩ | ⟨x, hreq, hb, rfl⟩ | ⟨-, hb, hedge⟩ | ⟨-, -, rfl⟩ | ⟨hwire, -⟩ :=
    exec_next_cases h
  · exact ⟨rfl, rfl, .inr (.inl ⟨start, x, rfl, rfl, rfl, rfl, noResults_resetAction s⟩)⟩
  · exact ⟨rfl, rfl, .inr (.inr (.inl
      ⟨x, hreq, hb, rfl, rfl, rfl, noResults_acceptAction x s⟩))⟩
  · obtain ⟨p, hc, hp, rfl⟩ | ⟨-, rfl⟩ := busyEdge_next_iff.1 hedge
    · exact ⟨rfl, rfl, .inr (.inr (.inr
        ⟨p, hb, hc, hp, rfl, rfl, hp, holdsResults_completeAction _ s⟩))⟩
    · exact ⟨rfl, rfl, .inl ⟨rfl, rfl, rfl, rfl, rfl, rfl, rfl⟩⟩
  · exact ⟨rfl, rfl, .inl ⟨rfl, rfl, rfl, rfl, rfl, rfl, rfl⟩⟩
  · exact absurd hi hwire

/-- Settles O9: the reset action and `State.reset` write R30's values. -/
theorem resetEdgeTakesResetValues : Obligations.ResetEdgeTakesResetValues :=
  ⟨fun _ _ s => ⟨resetAction s, rfl, rfl, rfl, rfl, noResults_resetAction s⟩,
    rfl, rfl, rfl, noResults_reset⟩

/-- Settles O46: BUSY = 0 and DONE = 0 without results meets the invariant. -/
theorem resetMeetsHandshakeInv : Obligations.ResetMeetsHandshakeInv :=
  ⟨handshakeInv_of_idle rfl rfl noResults_reset, nofun⟩

end Sys2Proof.Machine
end

section
/-! SUPPORT. What a host reads on the output ports, and element by element what a packed result array
holds (R14). -/

namespace Sys2Proof.Machine

/-! ## The packing -/

/-- Bit k of digit i of the packed number is bit k of element i. -/
theorem testBit_packNat {w : Nat} {xs : List (BitVec w)} {i k : Nat} (hi : i < xs.length)
    (hk : k < w) : (packNat xs).testBit (w * i + k) = xs[i].getLsbD k := by
  induction xs generalizing i with
  | nil => cases hi
  | cons x xs ih =>
    rw [packNat, Nat.add_comm, Nat.testBit_two_pow_mul_add _ x.isLt]
    cases i with
    | zero => simp [hk, BitVec.getLsbD]
    | succ i =>
      have hpos : w * (i + 1) + k = w + (w * i + k) := by rw [Nat.mul_succ]; omega
      rw [hpos, if_neg (by omega), Nat.add_sub_cancel_left]
      exact ih (Nat.lt_of_succ_lt_succ hi)

/-- Element i of an array stands in its own w bits of the port. -/
theorem extractLsb'_packPort {w n : Nat} (v : Vector (BitVec w) n) {i : Nat} (hi : i < n) :
    (packPort v).extractLsb' (w * i) w = v[i] := by
  refine BitVec.eq_of_getLsbD_eq fun k hk => ?_
  have hin : w * i + k < w * n :=
    calc w * i + k < w * (i + 1) := by rw [Nat.mul_succ]; omega
      _ ≤ w * n := Nat.mul_le_mul_left w hi
  rw [BitVec.getLsbD_extractLsb', packPort, BitVec.getLsbD_ofNat,
    testBit_packNat (by simpa using hi) hk]
  simp [hk, hin]

/-! ## The reads -/

theorem fcsOut_of_some {s : State} {f : Fcs} (h : s.fcs = some f) : fcsOut s = .ok f := by
  rw [fcsOut, h, readResult]

theorem cwOut_of_some {s : State} {v : Vector Codeword 10} (h : s.cw = some v) :
    cwOut s = .ok (packPort v) := by
  rw [cwOut, h, Option.map_some, readResult]

theorem chrOut_of_some {s : State} {v : Vector Character 10} (h : s.chr = some v) :
    chrOut s = .ok (packPort v) := by
  rw [chrOut, h, Option.map_some, readResult]

theorem barsOut_of_some {s : State} {v : Vector Bar 65} (h : s.bar = some v) :
    barsOut s = .ok (packPort v) := by
  rw [barsOut, h, Option.map_some, readResult]

/-! ## The obligation -/

/-- Settles O54: a port that holds a value shows it packed, and the packing keeps each element
apart. -/
theorem portsShowRegisters : Obligations.PortsShowRegisters := fun s =>
  ⟨BitVec.toNat_ofBool s.busy, BitVec.toNat_ofBool s.done, fun _ => fcsOut_of_some,
    fun v h => ⟨_, cwOut_of_some h, fun _ => extractLsb'_packPort v⟩,
    fun v h => ⟨_, chrOut_of_some h, fun _ => extractLsb'_packPort v⟩,
    fun v h => ⟨_, barsOut_of_some h, fun _ => extractLsb'_packPort v⟩⟩

end Sys2Proof.Machine
end

section
/-! SUPPORT. The datapath rows always answer, and write the wires alone (R43, R57). -/

namespace Sys2Proof.Machine

/-- Every row but the four commands on the IN word answers `withWires` of some wires: it neither
faults nor refuses. -/
theorem exec_eq_withWires_of_format {i : Instr} (s : State) (hi : i.format ≠ .inWord) :
    ∃ d, exec i s = .next (withWires d s) := by
  cases i with
  | reset | encode | encodeIgnored | nop => exact absurd rfl hi
  | fcsgen | truncate | decompose | fold | nofold | lut5 | lut2 | complement | pass | reverse
  | barT | barD | barA | barF => exact ⟨_, rfl⟩

/-- Settles O52: each datapath row answers `withWires`, which sets the field of the wires only. -/
theorem datapathRowsTouchNoRegister : Obligations.DatapathRowsTouchNoRegister :=
  fun _ s => exec_eq_withWires_of_format s

end Sys2Proof.Machine
end

section
/-! SUPPORT. The decoder and the encoder against each other: what a word of each format decodes to,
and that its instruction spells it (R47 to R60). -/

namespace Sys2Proof

/-! ## The IN word (R48) -/

/-- The value of two fields beside each other, as the format tables of R47 to R53 weigh them. -/
theorem toNat_append_eq_mul_add {m n : Nat} (x : BitVec m) (y : BitVec n) :
    (x ++ y).toNat = x.toNat * 2 ^ n + y.toNat := by
  rw [BitVec.toNat_append, ← Nat.shiftLeft_add_eq_or_of_lt y.isLt, Nat.shiftLeft_eq]

theorem toNat_inWord (rst start : Bool) (p : Payload) :
    (inWord rst start p).toNat = rst.toNat * 2 ^ 105 + start.toNat * 2 ^ 104 + p.toNat := by
  unfold inWord
  rw [toNat_append_eq_mul_add, toNat_append_eq_mul_add, BitVec.toNat_ofBool, BitVec.toNat_ofBool,
    Nat.add_assoc]

/-- The rows of R48 in priority order, on a word given by its fields. -/
theorem decodeCommand_inWord (busy rst start : Bool) (p : Payload) :
    decodeCommand busy (inWord rst start p) =
      if rst then .reset start p
      else if start then (if busy then .encodeIgnored p else .encode p)
      else .nop p := by
  simp only [decodeCommand, inRst_inWord, inStart_inWord, inPayload_inWord]

/-! ## The CW word (R49, R54) -/

theorem decodeLut_of_le {i : CwIndex} {c : Codeword} (h : c.toNat ≤ 1286) :
    decodeLut i c = .ok (.lut5 i c) := by
  simp [decodeLut, Machine.selectsRom5, h]

theorem decodeLut_of_mem {i : CwIndex} {c : Codeword} (h : 1287 ≤ c.toNat ∧ c.toNat ≤ 1364) :
    decodeLut i c = .ok (.lut2 i c) := by
  have h5 : ¬c.toNat ≤ 1286 := by omega
  simp [decodeLut, Machine.selectsRom5, Machine.selectsRom2, h5, h]

theorem decodeLut_of_gt {i : CwIndex} {c : Codeword} (h : 1365 ≤ c.toNat) :
    decodeLut i c = .error (.reservedCodeword c) := by
  have h5 : ¬c.toNat ≤ 1286 := by omega
  have h2 : ¬c.toNat ≤ 1364 := by omega
  simp [decodeLut, Machine.selectsRom5, Machine.selectsRom2, h5, h2]

/-! ## From an instruction to its word and back -/

/-- The word of a well-formed instruction is read as that instruction wherever its row applies. -/
theorem decode_encode {busy : Bool} {i : Instr} (hwf : i.wellFormed = true)
    (hb : i.allowedWhen busy = true) : decode busy (encode i) = .ok i := by
  cases i with
  | reset | nop => exact congrArg Except.ok (decodeCommand_inWord ..)
  | encode =>
    have hidle : busy = false := by simpa [Instr.allowedWhen] using hb
    subst hidle
    exact congrArg Except.ok (decodeCommand_inWord ..)
  | encodeIgnored =>
    have hbusy : busy = true := hb
    subst hbusy
    exact congrArg Except.ok (decodeCommand_inWord ..)
  | fcsgen | truncate | decompose | reverse | barT | barD | barA | barF => rfl
  | fold f =>
    have hsel : Machine.foldSelected f = true := hwf
    simp [encode, decode, hsel]
  | nofold f =>
    have hsel : Machine.foldSelected f = false := by simpa [Instr.wellFormed] using hwf
    simp [encode, decode, hsel]
  | lut5 => exact decodeLut_of_le (of_decide_eq_true hwf)
  | lut2 => exact decodeLut_of_mem (of_decide_eq_true hwf)
  | complement i f =>
    have hsel : Machine.complementSelected f i = true := hwf
    simp [encode, decode, hsel]
  | pass i f =>
    have hsel : Machine.complementSelected f i = false := by simpa [Instr.wellFormed] using hwf
    simp [encode, decode, hsel]

/-- The instruction spells the word, its select word selects its row, and its row applies while BUSY
is `busy`: it stands in the opcode table for that word. -/
def IsRowOf (busy : Bool) (x : Slot) (i : Instr) : Prop :=
  encode i = x ∧ i.wellFormed = true ∧ i.allowedWhen busy = true

theorem isRowOf_decodeCommand (busy : Bool) (w : InWord) :
    IsRowOf busy (.cmd w) (decodeCommand busy w) := by
  rw [← inWord_of_fields w, decodeCommand_inWord]
  cases inRst w with
  | true => exact ⟨rfl, rfl, rfl⟩
  | false =>
    cases inStart w with
    | true => cases busy <;> exact ⟨rfl, rfl, rfl⟩
    | false => exact ⟨rfl, rfl, rfl⟩

theorem isRowOf_of_decodeLut {busy : Bool} {j : CwIndex} {c : Codeword} {i : Instr}
    (h : decodeLut j c = .ok i) : IsRowOf busy (.lut j c) i := by
  unfold decodeLut at h
  split_ifs at h with h5 h2 <;> cases h
  · exact ⟨rfl, h5, rfl⟩
  · exact ⟨rfl, h2, rfl⟩

theorem isRowOf_decodeBar (busy : Bool) (j : BarIndex) (b : Bar) :
    IsRowOf busy (.bar j b) (decodeBar j b) := by
  unfold decodeBar
  split_ifs with h0 h1 h2
  · rw [h0]; exact ⟨rfl, rfl, rfl⟩
  · rw [h1]; exact ⟨rfl, rfl, rfl⟩
  · rw [h2]; exact ⟨rfl, rfl, rfl⟩
  · obtain rfl : b = 3#2 := by revert b; decide
    exact ⟨rfl, rfl, rfl⟩

theorem isRowOf_of_decode {busy : Bool} {x : Slot} {i : Instr} (h : decode busy x = .ok i) :
    IsRowOf busy x i := by
  cases x with
  | cmd w => cases h; exact isRowOf_decodeCommand busy w
  | lut j c => exact isRowOf_of_decodeLut h
  | bar j b => cases h; exact isRowOf_decodeBar busy j b
  | fcsgen | truncate | decompose | reverse => cases h; exact ⟨rfl, rfl, rfl⟩
  | fold f =>
    cases h
    split
    · next hsel => exact ⟨rfl, hsel, rfl⟩
    · next hsel => exact ⟨rfl, by simpa [Instr.wellFormed] using hsel, rfl⟩
  | comp j f =>
    cases h
    split
    · next hsel => exact ⟨rfl, hsel, rfl⟩
    · next hsel => exact ⟨rfl, by simpa [Instr.wellFormed] using hsel, rfl⟩

/-! ## The obligations -/

/-- Settles O1, by the row of the instruction: its word's fields or its select word choose it
again. -/
theorem decodeOfEncodeIsSame : Obligations.DecodeOfEncodeIsSame :=
  fun _ _ => decode_encode

/-- Settles O2, by the decoder that the word is presented to. -/
theorem encodeOfDecodedIsSame : Obligations.EncodeOfDecodedIsSame :=
  fun _ _ _ => isRowOf_of_decode

/-- Settles O3: the sum of the fields' weights is the value of the word with these fields, and every
word is the word of its own fields. -/
theorem commandWordsFollowTable : Obligations.CommandWordsFollowTable := by
  constructor
  · intro busy rst start p w hw
    obtain rfl : w = inWord rst start p :=
      BitVec.eq_of_toNat_eq (hw.trans (toNat_inWord rst start p).symm)
    exact congrArg Except.ok (decodeCommand_inWord busy rst start p)
  · intro w
    refine ⟨inRst w, inStart w, inPayload w, ?_⟩
    rw [← toNat_inWord, inWord_of_fields]

/-- Settles O5: the three ranges of a CW word, the last of which a step refuses. -/
theorem codewordWordsSelectLookup : Obligations.CodewordWordsSelectLookup := by
  intro busy i c
  refine ⟨decodeLut_of_le, decodeLut_of_mem, fun hc s rest hf => ?_⟩
  have hd : decode s.busy (Machine.fetch s) = .error (.reservedCodeword c) := by
    rw [Machine.fetch_of_feed_cons hf]
    exact decodeLut_of_gt hc
  rw [Machine.step, hd]

/-- Settles O32: the mask of codeword i is bit 9 - i of the FCS. -/
theorem complementByFcsBit : Obligations.ComplementByFcsBit := by
  intro busy i f s
  refine ⟨fun hbit => ⟨?_, rfl⟩, fun hbit => ⟨?_, rfl⟩⟩ <;>
    simp [decode, Machine.complementSelected_eq_bit, hbit]

/-- Settles O36: a BAR word is the word of its row, and the row writes that word on bar i. -/
theorem barRowsWriteTheirSymbol : Obligations.BarRowsWriteTheirSymbol :=
  fun _ _ _ => ⟨⟨rfl, rfl⟩, ⟨rfl, rfl⟩, ⟨rfl, rfl⟩, ⟨rfl, rfl⟩⟩

end Sys2Proof
end

section
/-! SUPPORT. What the FCS generator reads of a payload: nothing that the truncation drops (R58, R74,
R78). -/

namespace Sys2Proof.Machine

/-- A step absorbs bit 10 of the message alone (R71). -/
theorem fcsStep_congr {f : Fcs} {d d' : BitVec 24} (h : d.getLsbD 10 = d'.getLsbD 10) :
    fcsStep f d = fcsStep f d' := by
  have hmask : 0x400#24 = BitVec.twoPow 24 10 := rfl
  have hbit : (f.setWidth 24 ^^^ d) &&& 0x400#24 = (f.setWidth 24 ^^^ d') &&& 0x400#24 := by
    rw [hmask, BitVec.and_twoPow, BitVec.and_twoPow, BitVec.getLsbD_xor, BitVec.getLsbD_xor, h]
  rw [fcsStep, fcsStep, hbit]

/-- n steps absorb bits 10, 9, … of the message, n of them (R72). -/
theorem fcsRepeat_congr {n : Nat} {f : Fcs} {d d' : BitVec 24} (hn : n ≤ 11)
    (h : ∀ k < n, d.getLsbD (10 - k) = d'.getLsbD (10 - k)) : fcsRepeat n f d = fcsRepeat n f d' := by
  induction n generalizing f d d' with
  | zero => rfl
  | succ n ih =>
    rw [fcsRepeat, fcsRepeat, fcsStep_congr (h 0 (by omega))]
    refine ih (by omega) fun k hk => ?_
    have hpos : 10 - k - 1 = 10 - (k + 1) := by omega
    rw [BitVec.getLsbD_shiftLeft, BitVec.getLsbD_shiftLeft, hpos, h (k + 1) (by omega)]

/-- The steps over a byte that is shifted so that its bit n - 1 is absorbed first absorb its low n
bits. -/
theorem fcsRepeat_byte_congr {n s : Nat} (hn : n + s = 11) {f : Fcs} {b b' : BitVec 8}
    (h : ∀ k < n, b.getLsbD k = b'.getLsbD k) :
    fcsRepeat n f (b.setWidth 24 <<< s) = fcsRepeat n f (b'.setWidth 24 <<< s) := by
  refine fcsRepeat_congr (by omega) fun k hk => ?_
  simp only [BitVec.getLsbD_shiftLeft, BitVec.getLsbD_setWidth]
  rw [h (10 - k - s) (by omega)]

theorem payloadByte_getLsbD (p : Payload) (j : Nat) {k : Nat} (hk : k < 8) :
    (payloadByte p j).getLsbD k = p.getLsbD (96 - 8 * j + k) := by
  simp [payloadByte, hk]

theorem truncateOf_getLsbD (p : Payload) {k : Nat} (hk : k < 102) :
    (truncateOf p).getLsbD k = p.getLsbD k := by
  simp [truncateOf, payloadData, hk]

/-- FCSGEN reads 6 bits of byte 0 and the other bytes, so no bit that TRUNCATE drops (R72, R74). -/
theorem fcsGen_eq_of_truncateOf_eq {p q : Payload} (h : truncateOf p = truncateOf q) :
    fcsGen p = fcsGen q := by
  have hbyte : ∀ j k, k < 8 → 96 - 8 * j + k < 102 →
      (payloadByte p j).getLsbD k = (payloadByte q j).getLsbD k := by
    intro j k hk hlt
    rw [payloadByte_getLsbD p j hk, payloadByte_getLsbD q j hk, ← truncateOf_getLsbD p hlt,
      ← truncateOf_getLsbD q hlt, h]
  have hfirst : fcsRepeat 6 fcsInit ((payloadByte p 0).setWidth 24 <<< 5) =
      fcsRepeat 6 fcsInit ((payloadByte q 0).setWidth 24 <<< 5) :=
    fcsRepeat_byte_congr rfl fun k hk => hbyte 0 k (by omega) (by omega)
  rw [fcsGen, fcsGen, hfirst]
  refine List.foldl_ext _ _ _ fun f j hj => fcsRepeat_byte_congr rfl fun k hk => ?_
  obtain ⟨hj, -⟩ := List.mem_range'_1.1 hj
  exact hbyte j k hk (by omega)

theorem truncateOf_eq_iff {p q : Payload} :
    truncateOf p = truncateOf q ↔ p.toNat % 2 ^ 102 = q.toNat % 2 ^ 102 := by
  simp [truncateOf, payloadData, ← BitVec.toNat_inj]

/-! ## The obligation -/

/-- Settles O41: the FCS and the codewords are functions of what TRUNCATE keeps. -/
theorem encodeIgnoresTopTwoBits : Obligations.EncodeIgnoresTopTwoBits := by
  intro p q h
  have hdata : truncateOf p = truncateOf q := truncateOf_eq_iff.2 h
  rw [encodeOf, encodeOf, encodeWith, encodeWith, fcsGen_eq_of_truncateOf_eq hdata, hdata]

end Sys2Proof.Machine
end

section
/-! SUPPORT. The words of the bar map, field by field, and what a list that spells a bar map is
(R53, R91). -/

namespace Sys2Proof.Machine

/-! ## One word -/

/-- R53: the four fields of a BME word. -/
theorem bme_fields (e : Bme) :
    (e.extractLsb' 12 4).toNat = e.toNat / 2 ^ 12 ∧
      (e.extractLsb' 8 4).toNat = e.toNat / 2 ^ 8 % 16 ∧
      (e.extractLsb' 4 4).toNat = e.toNat / 2 ^ 4 % 16 ∧
      (e.extractLsb' 0 4).toNat = e.toNat % 16 := by
  refine ⟨?_, ?_, ?_, ?_⟩ <;> rw [BitVec.extractLsb'_toNat, Nat.shiftRight_eq_div_pow] <;> omega

theorem barEntryOf_eq_some_iff {e : Bme} {x : BarEntry} :
    barEntryOf e = some x ↔
      x.dscChr.val = e.toNat / 2 ^ 12 ∧ x.dscPos.val = e.toNat / 2 ^ 8 % 16 ∧
      x.ascChr.val = e.toNat / 2 ^ 4 % 16 ∧ x.ascPos.val = e.toNat % 16 := by
  obtain ⟨h12, h8, h4, h0⟩ := bme_fields e
  obtain ⟨dchr, dpos, achr, apos⟩ := x
  simp only [barEntryOf, Option.dite_none_right_eq_some, h12, h8, h4, h0, Option.some.injEq,
    BarEntry.mk.injEq, Fin.ext_iff]
  constructor
  · rintro ⟨-, h⟩
    omega
  · intro h
    exact ⟨by omega, by omega⟩

theorem barEntryOf_eq_none_iff {e : Bme} :
    barEntryOf e = none ↔
      10 ≤ e.toNat / 2 ^ 12 ∨ 13 ≤ e.toNat / 2 ^ 8 % 16 ∨
      10 ≤ e.toNat / 2 ^ 4 % 16 ∨ 13 ≤ e.toNat % 16 := by
  obtain ⟨h12, h8, h4, h0⟩ := bme_fields e
  simp only [barEntryOf, dite_eq_right_iff, h12, h8, h4, h0, reduceCtorEq, imp_false]
  omega

theorem toNat_barEntryWord (x : BarEntry) :
    (barEntryWord x).toNat =
      x.dscChr.val * 2 ^ 12 + x.dscPos.val * 2 ^ 8 + x.ascChr.val * 2 ^ 4 + x.ascPos.val := by
  unfold barEntryWord
  rw [toNat_append_eq_mul_add, toNat_append_eq_mul_add, toNat_append_eq_mul_add]
  simp only [BitVec.toNat_ofNat]
  omega

theorem barEntryOf_barEntryWord (x : BarEntry) : barEntryOf (barEntryWord x) = some x := by
  rw [barEntryOf_eq_some_iff, toNat_barEntryWord]
  omega

/-! ## A list of words -/

theorem map_barEntryOf_of_barEntriesOf {ws : List Bme} {xs : List BarEntry}
    (h : barEntriesOf ws = some xs) : ws.map barEntryOf = xs.map some := by
  induction ws generalizing xs with
  | nil => cases h; rfl
  | cons e es ih =>
    rw [barEntriesOf] at h
    split at h
    · next x ys hx hys =>
      cases h
      rw [List.map_cons, List.map_cons, hx, ih hys]
    · cases h

theorem map_barEntryOf_of_barMapOf {ws : List Bme} {m : BarMap} (h : barMapOf ws = some m) :
    ws.map barEntryOf = m.toList.map some := by
  unfold barMapOf at h
  split at h
  · next xs hxs =>
    split_ifs at h
    cases h
    exact map_barEntryOf_of_barEntriesOf hxs
  · cases h

/-! ## The obligation -/

/-- Settles O38: a word is read exactly when its fields are in range, and a list spells a bar map only
if every word of it is read. -/
theorem barMapWordsReadOrRefused : Obligations.BarMapWordsReadOrRefused := by
  refine ⟨fun e => ⟨barEntryOf_eq_none_iff, fun x => barEntryOf_eq_some_iff.1⟩,
    barEntryOf_barEntryWord, fun ws m h => ?_⟩
  have hmap := map_barEntryOf_of_barMapOf h
  refine ⟨by simpa using congrArg List.length hmap, fun i => ?_⟩
  have hi : (ws.map barEntryOf)[i.val]? = (m.toList.map some)[i.val]? := by rw [hmap]
  rw [List.getElem?_map, List.getElem?_map] at hi
  exact Option.bind_eq_some_iff.2 (by simpa using hi)

end Sys2Proof.Machine
end

section
/-! SUPPORT. The mapper's characters by FCS bit (R55, R87), and the host's letters by bar (R51, R52). -/

namespace Sys2Proof.Machine

/-- R55, R85: a character is complemented by the FCS bit of its codeword. -/
theorem charOf_eq (f : Fcs) (i : Fin 10) (v : Character) :
    charOf f i v = if f.getLsbD (9 - i.val) then v ^^^ 0x1FFF#13 else v := by
  rw [charOf, complementSelected_eq_bit]
  rfl

/-- R51: the letter of a BAR word. -/
theorem letterOf_symbolOf (b : Bar) :
    some (letterOf (symbolOf b)) = ['T', 'D', 'A', 'F'][b.toNat]? := by
  revert b
  decide

/-! ## The obligations -/

/-- Settles O34: codeword 9 - k has FCS bit 9 - (9 - k). -/
theorem characterOfCodeword : Obligations.CharacterOfCodeword := by
  intro cw f k hk
  have h9 : 9 - (9 - k) = k := by omega
  rw [mapChars_getElem cw f k hk, charOf_eq, h9]

/-- Settles O56: the string is the letter of each bar in turn. -/
theorem lettersFollowBars : Obligations.LettersFollowBars := by
  intro bar
  refine ⟨by simp [lettersOf], fun i hi => ?_⟩
  rw [← letterOf_symbolOf]
  simp [lettersOf, hi]

end Sys2Proof.Machine
end

section
/-! SUPPORT. Host input: what an edge with an IN word does to the feed and to the invariant, so that no
run on host input stops, and what WAIT and the host script come to (R60, R62, R63, R107). -/

namespace Sys2Proof.Machine

open Safety

/-! ## Every edge on host input answers a next state (R107) -/

/-- A busy block that meets the invariant has an edge left and a payload, so its edge completes or
counts. -/
theorem busyEdge_answers {s : State} (hinv : HandshakeInv s) (hb : s.busy = true) :
    ∃ t, busyEdge s = .next t := by
  obtain ⟨-, -, hbusy⟩ := hinv
  obtain ⟨-, hp, hpos⟩ := hbusy hb
  obtain ⟨p, hp⟩ := Option.isSome_iff_exists.1 hp
  rcases hpos.eq_or_lt with hlast | hmore
  · exact ⟨_, busyEdge_of_last hlast.symm hp⟩
  · exact ⟨_, busyEdge_of_more hmore⟩

theorem requestEdge_answers {s : State} (x : Payload) (hinv : HandshakeInv s) :
    ∃ t, requestEdge x s = .next t := by
  cases hb : s.busy with
  | false => exact ⟨_, requestEdge_of_idle hb⟩
  | true => rw [requestEdge_of_busy hb]; exact busyEdge_answers hinv hb

/-- No instruction stops in a state that meets the invariant. -/
theorem exec_answers (i : Instr) {s : State} (hinv : HandshakeInv s) :
    ∃ t, exec i s = .next t := by
  by_cases hi : i.format = .inWord
  · cases i with
    | reset => exact ⟨_, rfl⟩
    | encode x | encodeIgnored x => exact requestEdge_answers x hinv
    | nop x =>
      cases hb : s.busy with
      | false => exact ⟨s, by simp [exec, execNop, hb]⟩
      | true => rw [exec_nop_of_busy hb]; exact busyEdge_answers hinv hb
    | _ => cases hi
  · obtain ⟨d, hd⟩ := exec_eq_withWires_of_format s hi
    exact ⟨_, hd⟩

/-- An instruction takes no word from the feed and puts none there. -/
theorem exec_keeps_feed {i : Instr} {s t : State} (h : exec i s = .next t) : t.feed = s.feed := by
  obtain ⟨_, _, -, rfl⟩ | ⟨_, -, -, rfl⟩ | ⟨-, -, hedge⟩ | ⟨-, -, rfl⟩ | ⟨-, _, rfl⟩ :=
    exec_next_cases h
  · rfl
  · rfl
  · obtain ⟨_, -, -, rfl⟩ | ⟨-, rfl⟩ := busyEdge_next_iff.1 hedge <;> rfl
  · rfl
  · rfl

theorem step_feed {s t : State} (h : step s = .next t) : t.feed = s.feed.tail := by
  obtain ⟨_, -, hexec⟩ := step_next_iff.1 h
  exact exec_keeps_feed hexec

/-- With only the host's words to come the next word is an IN word, that of an idle host if there is
none (log entry 1). -/
theorem fetch_of_hostOnly {s : State} (h : hostOnly s) : ∃ w, fetch s = .cmd w := by
  cases hf : s.feed with
  | nil => exact ⟨_, fetch_of_feed_nil hf⟩
  | cons x rest =>
    rw [fetch_of_feed_cons hf]
    have hx : x.format = .inWord := h x (by simp [hf])
    cases x with
    | cmd w => exact ⟨w, rfl⟩
    | _ => cases hx

/-- R60, R107: no IN word is illegal, and no edge faults. -/
theorem step_answers {s : State} (hinv : HandshakeInv s) (hh : hostOnly s) :
    ∃ t, step s = .next t := by
  obtain ⟨w, hw⟩ := fetch_of_hostOnly hh
  have hd : decode s.busy (fetch s) = .ok (decodeCommand s.busy w) := by rw [hw]; rfl
  rw [step_of_decode hd]
  exact exec_answers _ (handshakeInv_advance.2 hinv)

theorem step_keeps_hostOnly {s t : State} (h : step s = .next t) (hh : hostOnly s) : hostOnly t :=
  fun x hx => hh x (List.mem_of_mem_tail (step_feed h ▸ hx))

/-! ## WAIT (R62) -/

/-- An edge with RST = 0 and START = 0 on a busy block; the words to come are not touched. -/
theorem edge_nop_of_busy {s : State} (hb : s.busy = true) :
    edge (inWord false false 0) s = busyEdge s := by
  have hd : decode s.busy (.cmd (inWord false false 0)) = .ok (.nop 0) := by
    simp [decode, decodeCommand]
  rw [edge, step_present hd, exec_nop_of_busy hb]

/-- WAIT ends at once where DONE = 1 is seen. -/
theorem runWait_of_done {s : State} (n : Nat) (hd : s.done = true) : runWait n s = .next s := by
  cases n <;> rw [runWait, if_pos hd]

/-- WAIT goes on after an edge of a busy block. -/
theorem runWait_of_busy {s t : State} (n : Nat) (hb : s.busy = true) (hd : s.done = false)
    (ht : busyEdge s = .next t) : runWait (n + 1) s = runWait n t := by
  have hnot : ¬s.done = true := by simp [hd]
  rw [runWait, if_neg hnot, if_pos hb, edge_nop_of_busy hb, ht]

/-- As many edges as CNT says bring a busy block to its results (R98, R99). -/
theorem runWait_cnt_completes {s : State} {p : Payload} (hb : s.busy = true) (hd : s.done = false)
    (hp : s.p = some p) (hpos : 1 ≤ s.cnt) :
    ∃ t, runWait s.cnt s = .next t ∧ t.done = true ∧ t.busy = false ∧
      holdsResults t (encodeOf p) ∧ t.feed = s.feed := by
  obtain ⟨n, hn⟩ := Nat.exists_eq_add_of_le' hpos
  rw [hn]
  induction n generalizing s with
  | zero =>
    rw [runWait_of_busy 0 hb hd (busyEdge_of_last hn hp), runWait_of_done 0 rfl]
    exact ⟨_, rfl, rfl, rfl, holdsResults_completeAction _ s, rfl⟩
  | succ n ih =>
    rw [runWait_of_busy _ hb hd (busyEdge_of_more (by omega))]
    have hleft : (countAction s).cnt = n + 1 := by rw [countAction_cnt, hn, Nat.add_sub_cancel]
    exact ih hb hd hp (by omega) hleft

/-! ## The host script (R62, R63) -/

theorem runScript_cons_of_next {x : Stmt} {s t : State} (xs : List Stmt)
    (h : runStmt x s = .next t) : runScript (x :: xs) s = runScript xs t := by
  rw [runScript, h]

/-- ENCODE on an idle block is one accepting edge (R97). -/
theorem runStmt_encode_of_idle {s : State} (p : Payload) (hb : s.busy = false) :
    runStmt (.encode p) s = .next (acceptAction p s) := by
  have hd : decode s.busy (.cmd (inWord false true p)) = .ok (.encode p) := by
    simp [decode, decodeCommand, hb]
  have he : edge (inWord false true p) s = .next (acceptAction p s) := by
    rw [edge, step_present hd]
    exact requestEdge_of_idle hb
  simp only [runStmt, Stmt.words, drive, he]

/-- An EXPECT of the value that the port shows changes nothing. -/
theorem runStmt_expect_of_read {s : State} {port : Port} {v : BitVec port.width}
    (h : readPort s port = .ok v) : runStmt (.expect port v.toNat) s = .next s := by
  simp only [runStmt, runExpect, h, if_true]

/-- READ_ALL passes on a block that holds the values expected (R63). -/
theorem runScript_readAll {s : State} {r : Results} (h : holdsResults s r) :
    runScript (ScriptLine.readAll.expand r.fcs.toNat (packPort r.cw).toNat
      (packPort r.chr).toNat (packPort r.bar).toNat) s = .next s := by
  obtain ⟨hfcs, hcw, hchr, hbar⟩ := h
  have hf : runStmt (.expect .fcsOut r.fcs.toNat) s = .next s :=
    runStmt_expect_of_read (port := .fcsOut) (fcsOut_of_some hfcs)
  have hw : runStmt (.expect .cwOut (packPort r.cw).toNat) s = .next s :=
    runStmt_expect_of_read (port := .cwOut) (cwOut_of_some hcw)
  have hc : runStmt (.expect .chrOut (packPort r.chr).toNat) s = .next s :=
    runStmt_expect_of_read (port := .chrOut) (chrOut_of_some hchr)
  have hb : runStmt (.expect .barsOut (packPort r.bar).toNat) s = .next s :=
    runStmt_expect_of_read (port := .barsOut) (barsOut_of_some hbar)
  rw [ScriptLine.expand, runScript_cons_of_next _ hf, runScript_cons_of_next _ hw,
    runScript_cons_of_next _ hc, runScript_cons_of_next _ hb, runScript]

/-- ENCODE_WAIT on an idle block hands the state that WAIT ends with to the rest of the script
(R63). -/
theorem runScript_encodeWait {s t : State} {p : Payload} (fcs cw chr bars : Nat) (xs : List Stmt)
    (hb : s.busy = false) (hwait : runStmt .wait (acceptAction p s) = .next t) :
    runScript ((ScriptLine.encodeWait p).expand fcs cw chr bars ++ xs) s = runScript xs t := by
  rw [ScriptLine.expand, List.cons_append, List.singleton_append,
    runScript_cons_of_next _ (runStmt_encode_of_idle p hb), runScript_cons_of_next _ hwait]

/-! ## The obligations -/

/-- Settles O47, by induction on the length of the run: a step answers, and keeps the invariant and
the host's feed. -/
theorem hostRunNeverFaults : Obligations.HostRunNeverFaults := by
  intro s k hinv hhost
  induction k generalizing s with
  | zero => exact ⟨s, core_run_zero s, hinv, hhost⟩
  | succ k ih =>
    obtain ⟨t, ht⟩ := step_answers hinv hhost
    rw [core_run_succ_of_next k ht]
    exact ih t (step_keeps_handshakeInv ht hinv) (step_keeps_hostOnly ht hhost)

/-- Settles O59: the invariant gives WAIT an edge left, and CNT edges complete. -/
theorem waitEndsWithResults : Obligations.WaitEndsWithResults := by
  intro s p ⟨_, _, hbusy⟩ hb hp
  obtain ⟨hd, -, hpos⟩ := hbusy hb
  exact runWait_cnt_completes hb hd hp hpos

/-- Settles O60: ENCODE is accepted, WAIT ends with the results, and each EXPECT reads its own. -/
theorem encodeWaitReadAllPasses : Obligations.EncodeWaitReadAllPasses := by
  intro s p hb
  obtain ⟨t, hwait, -, -, hres, hfeed⟩ :=
    waitEndsWithResults (acceptAction p s) p (handshakeInv_acceptAction p s) rfl rfl
  exact ⟨t, (runScript_encodeWait _ _ _ _ _ hb hwait).trans (runScript_readAll hres), hfeed, hres⟩

end Sys2Proof.Machine
end

section
/-! SUPPORT. The bit reversal bit by bit, its own inverse, and what it keeps (R64). -/

namespace Sys2Proof.Machine

/-- The weighted sum of R64 is the number with the bits of `v` from the top. -/
theorem rev13_eq_ofBits (v : Character) :
    rev13 v = BitVec.ofNat 13 (Nat.ofBits fun i : Fin 13 => v.getLsbD (12 - i)) := by
  refine congrArg (BitVec.ofNat 13) ?_
  simp [List.range_succ, Nat.ofBits, Fin.foldr_succ]
  omega

theorem getLsbD_rev13 (v : Character) {pos : Nat} (h : pos < 13) :
    (rev13 v).getLsbD pos = v.getLsbD (12 - pos) := by
  rw [rev13_eq_ofBits, BitVec.getLsbD_ofNat, Nat.testBit_ofBits_lt _ _ h, decide_eq_true h,
    Bool.true_and]

@[simp] theorem rev13_rev13 (v : Character) : rev13 (rev13 v) = v := by
  apply BitVec.eq_of_getLsbD_eq
  intro pos h
  have hpos : 12 - (12 - pos) = pos := by omega
  rw [getLsbD_rev13 _ h, getLsbD_rev13 _ (by omega), hpos]

/-- The sum of the bits from the low end is the sum from the high end. -/
theorem popcount_rev13 (v : Character) : popcount (rev13 v) = popcount v := by
  simp only [popcount, List.range_succ, List.range_zero, List.nil_append, List.cons_append,
    List.foldr_cons, List.foldr_nil, getLsbD_rev13 v, Nat.reduceLT, Nat.reduceSub]
  omega

/-! ## The obligation -/

/-- Settles O27: both laws follow from the reversal's bits. -/
theorem bitReversalLaws : Obligations.BitReversalLaws :=
  ⟨fun v => ⟨fun _ => getLsbD_rev13 v, rev13_rev13 v, popcount_rev13 v⟩, by decide, by decide⟩

end Sys2Proof.Machine
end

section
/-! SUPPORT. What the generator fills in (R65): the candidates in increasing order, the pairs and the
self-symmetric values among them, and the candidates listed without visiting every 13-bit value, so
that the ROM listings can be evaluated against them (R66). -/

namespace Sys2Proof.Machine

/-! ## The fills of the generator -/

/-- The 13-bit values with `n` bits set, in increasing order: the candidates that GEN places. -/
def weighted (n : Nat) : List Character :=
  ((List.range 8192).map (BitVec.ofNat 13)).filter fun v => popcount v = n

/-- Every value that is smaller than its reversal, followed by that reversal. -/
def pairsOf (vs : List Character) : List Character :=
  (vs.filter fun v => v.toNat < (rev13 v).toNat).flatMap fun v => [v, rev13 v]

def selfReversed (vs : List Character) : List Character :=
  vs.filter fun v => rev13 v = v

/-- Visiting the values of a list in turn puts its pairs on the low fill and its self-symmetric values
on the high fill, the last visited first. -/
theorem foldl_genStep (n : Nat) (vs : List Character) (t : GenFill) :
    vs.foldl (fun t v => genStep n v t) t =
      ⟨(pairsOf (vs.filter fun v => popcount v = n)).reverse ++ t.low,
        (selfReversed (vs.filter fun v => popcount v = n)).reverse ++ t.high⟩ := by
  induction vs generalizing t with
  | nil => rfl
  | cons v vs ih =>
    rw [List.foldl_cons, ih]
    by_cases hn : popcount v = n
    · rcases Nat.lt_trichotomy v.toNat (rev13 v).toNat with hlt | heq | hgt
      · have hne : rev13 v ≠ v := fun h => by simp [h] at hlt
        simp [genStep, pairsOf, selfReversed, hn, hlt, hne, hlt.not_gt]
      · have heq := BitVec.eq_of_toNat_eq heq.symm
        simp [genStep, pairsOf, selfReversed, hn, heq]
      · have hne : rev13 v ≠ v := fun h => by simp [h] at hgt
        simp [genStep, pairsOf, selfReversed, hn, hgt, hne, hgt.le]
    · simp [genStep, hn]

theorem genFrom_eq_foldl (n : Nat) {k : Nat} (hk : k ≤ 8192) (t : GenFill) :
    genFrom n k t =
      ((List.range' (8192 - k) k).map (BitVec.ofNat 13)).foldl (fun t v => genStep n v t) t := by
  induction k generalizing t with
  | zero => rfl
  | succ k ih =>
    have hfirst : 8192 - (k + 1) = 8191 - k := by omega
    have hnext : 8191 - k + 1 = 8192 - k := by omega
    rw [hfirst, List.range'_succ, hnext, List.map_cons, List.foldl_cons, ← ih (by omega), genFrom]

theorem genFrom_all (n : Nat) :
    genFrom n 8192 ⟨[], []⟩ =
      ⟨(pairsOf (weighted n)).reverse, (selfReversed (weighted n)).reverse⟩ := by
  have h := genFrom_eq_foldl n (k := 8192) le_rfl ⟨[], []⟩
  rw [Nat.sub_self, ← List.range_eq_range', foldl_genStep, List.append_nil, List.append_nil] at h
  exact h

/-- R65: where the two fills meet, no entry is left empty. -/
theorem gen_of_genFrom {n size : Nat} {low high : List Character}
    (h : genFrom n 8192 ⟨[], []⟩ = ⟨low, high⟩) (hsize : low.length + high.length = size) :
    gen n size = (low.reverse ++ high).map some := by
  have hfull : size - low.length - high.length = 0 := by omega
  -- The equation of `gen` itself would have the kernel run all 8192 candidates.
  have hgen : ∀ g, gen = g → g n size = (low.reverse ++ high).map some := by
    delta gen
    rintro _ rfl
    beta_reduce
    rw [h]
    simp only [hfull, List.replicate_zero, List.append_nil, List.map_append]
  exact hgen gen rfl

/-! ## The candidates by their bits -/

/-- The number of set bits among the lowest `k`. -/
def bitsBelow : Nat → Nat → Nat
  | 0, _ => 0
  | k + 1, m => bitsBelow k m + (m.testBit k).toNat

theorem popcount_ofNat (m : Nat) : popcount (BitVec.ofNat 13 m) = bitsBelow 13 m := by
  simp [popcount, bitsBelow, List.range_succ, BitVec.getLsbD_ofNat]
  omega

theorem bitsBelow_two_pow_add {k j m : Nat} (h : k ≤ j) :
    bitsBelow k (2 ^ j + m) = bitsBelow k m := by
  induction k with
  | zero => rfl
  | succ k ih => rw [bitsBelow, bitsBelow, ih (by omega), Nat.testBit_two_pow_add_gt (by omega)]

theorem bitsBelow_succ_of_lt {k m : Nat} (h : m < 2 ^ k) :
    bitsBelow (k + 1) m = bitsBelow k m := by
  rw [bitsBelow, Nat.testBit_lt_two_pow h]
  rfl

theorem bitsBelow_succ_two_pow_add {k m : Nat} (h : m < 2 ^ k) :
    bitsBelow (k + 1) (2 ^ k + m) = bitsBelow k m + 1 := by
  rw [bitsBelow, bitsBelow_two_pow_add le_rfl, Nat.testBit_two_pow_add_eq, Nat.testBit_lt_two_pow h]
  rfl

/-- The numbers below `2 ^ k` with `n` bits set, in increasing order: first those with bit `k - 1`
clear, then those with it set. -/
def numbersWithBits : Nat → Nat → List Nat
  | 0, 0 => [0]
  | 0, _ + 1 => []
  | k + 1, 0 => numbersWithBits k 0
  | k + 1, n + 1 => numbersWithBits k (n + 1) ++ (numbersWithBits k n).map (2 ^ k + ·)

theorem filter_bitsBelow (k n : Nat) :
    (List.range (2 ^ k)).filter (fun m => bitsBelow k m = n) = numbersWithBits k n := by
  induction k generalizing n with
  | zero => cases n <;> rfl
  | succ k ih =>
    have hclear : (List.range (2 ^ k)).filter (fun m => bitsBelow (k + 1) m = n) =
        numbersWithBits k n := by
      rw [← ih]
      exact List.filter_congr fun m hm => by rw [bitsBelow_succ_of_lt (List.mem_range.1 hm)]
    have hset : (List.range (2 ^ k)).filter (fun m => bitsBelow (k + 1) (2 ^ k + m) = n) =
        (List.range (2 ^ k)).filter (fun m => bitsBelow k m + 1 = n) :=
      List.filter_congr fun m hm => by rw [bitsBelow_succ_two_pow_add (List.mem_range.1 hm)]
    rw [Nat.pow_succ, Nat.mul_two, List.range_add, List.filter_append, List.filter_map, hclear,
      Function.comp_def, hset]
    cases n with
    | zero => simp [numbersWithBits]
    | succ n => simp [numbersWithBits, ih]

theorem weighted_eq (n : Nat) : weighted n = (numbersWithBits 13 n).map (BitVec.ofNat 13) := by
  rw [weighted, List.filter_map, ← filter_bitsBelow]
  simp [Function.comp_def, popcount_ofNat]

end Sys2Proof.Machine
end

section
/-! SUPPORT. The ROM listings against the generator (R66), and what the generator's fills say of them:
their pairs and their self-symmetric entries (R67), and their closure under reversal (R68). -/

namespace Sys2Proof.Machine

/-! ## The listings -/

/-- R66, R67: the ROM lists the pairs among the values with `n` bits set and then, in decreasing order,
the self-symmetric ones. -/
def RomSplit (rom : List Character) (n pairs : Nat) : Prop :=
  pairsOf (weighted n) = rom.take (2 * pairs) ∧
    (selfReversed (weighted n)).reverse = rom.drop (2 * pairs)

theorem rom2_split : RomSplit rom2 2 36 := by
  rw [RomSplit, weighted_eq]
  decide +kernel

theorem rom5_split : RomSplit rom5 5 636 := by
  rw [RomSplit, weighted_eq]
  decide +kernel

theorem gen_of_split {rom : List Character} {n pairs size : Nat} (h : RomSplit rom n pairs)
    (hlen : rom.length = size) : gen n size = rom.map some := by
  obtain ⟨hlow, hhigh⟩ := h
  have hgen := genFrom_all n
  rw [hlow, hhigh] at hgen
  have hsize : (rom.take (2 * pairs)).reverse.length + (rom.drop (2 * pairs)).length = size := by
    rw [List.length_reverse, ← List.length_append, List.take_append_drop, hlen]
  rw [gen_of_genFrom hgen hsize, List.reverse_reverse, List.take_append_drop]

/-! ## The pairs -/

theorem pairsOf_cons_of_lt {v : Character} (vs : List Character)
    (h : v.toNat < (rev13 v).toNat) : pairsOf (v :: vs) = v :: rev13 v :: pairsOf vs := by
  simp [pairsOf, h]

theorem pairsOf_cons_of_not_lt {v : Character} (vs : List Character)
    (h : ¬v.toNat < (rev13 v).toNat) : pairsOf (v :: vs) = pairsOf vs := by
  simp [pairsOf, h]

theorem pairsOf_getElem? (vs : List Character) {j : Nat} (h : 2 * j < (pairsOf vs).length) :
    ∃ v, (pairsOf vs)[2 * j]? = some v ∧ (pairsOf vs)[2 * j + 1]? = some (rev13 v) ∧
      v.toNat < (rev13 v).toNat := by
  induction vs generalizing j with
  | nil => cases h
  | cons v vs ih =>
    by_cases hv : v.toNat < (rev13 v).toNat
    · rw [pairsOf_cons_of_lt vs hv] at h ⊢
      cases j with
      | zero => exact ⟨v, rfl, rfl, hv⟩
      | succ j => exact ih (by simpa [Nat.mul_succ] using h)
    · rw [pairsOf_cons_of_not_lt vs hv] at h ⊢
      exact ih h

theorem rev13_mem_pairsOf {vs : List Character} {v : Character} (h : v ∈ pairsOf vs) :
    rev13 v ∈ pairsOf vs := by
  obtain ⟨u, hu, hv⟩ := List.mem_flatMap.1 h
  refine List.mem_flatMap.2 ⟨u, hu, ?_⟩
  rcases List.mem_pair.1 hv with rfl | rfl <;> simp

/-! ## The self-symmetric entries -/

theorem weighted_sorted (n : Nat) : (weighted n).Pairwise fun u v => u.toNat < v.toNat := by
  refine List.Pairwise.filter _ (List.pairwise_map.2 ?_)
  refine List.pairwise_lt_range.imp_of_mem fun hl hm hlt => ?_
  rw [List.mem_range] at hl hm
  rwa [BitVec.toNat_ofNat, BitVec.toNat_ofNat, Nat.mod_eq_of_lt hl, Nat.mod_eq_of_lt hm]

theorem selfReversed_decreasing (n : Nat) :
    (selfReversed (weighted n)).reverse.Pairwise fun u v => v.toNat < u.toNat :=
  List.pairwise_reverse.2 ((weighted_sorted n).filter _)

theorem rev13_of_mem_selfReversed {vs : List Character} {v : Character} (h : v ∈ selfReversed vs) :
    rev13 v = v :=
  of_decide_eq_true (List.mem_filter.1 h).2

/-! ## A ROM that is so split -/

section
variable {rom : List Character} {n pairs : Nat}

theorem pair_of_split (h : RomSplit rom n pairs) {j : Nat} (hj : j < pairs)
    (hlen : 2 * pairs ≤ rom.length) :
    ∃ v, rom[2 * j]? = some v ∧ rom[2 * j + 1]? = some (rev13 v) ∧
      v.toNat < (rev13 v).toNat := by
  obtain ⟨hlow, -⟩ := h
  have hpair := pairsOf_getElem? (weighted n) (j := j)
  rw [hlow, List.length_take, Nat.min_eq_left hlen, List.getElem?_take_of_lt (by omega),
    List.getElem?_take_of_lt (by omega)] at hpair
  exact hpair (by omega)

theorem selfReversed_of_split (h : RomSplit rom n pairs) {k : Nat} (hlow : 2 * pairs ≤ k)
    (hlen : k < rom.length) :
    ∃ v, rom[k]? = some v ∧ rev13 v = v ∧ ∀ u, rom[k + 1]? = some u → u.toNat < v.toNat := by
  obtain ⟨i, rfl⟩ := Nat.exists_eq_add_of_le hlow
  obtain ⟨-, hhigh⟩ := h
  have hi : i < (rom.drop (2 * pairs)).length := by rw [List.length_drop]; omega
  have hself : ∀ v ∈ rom.drop (2 * pairs), rev13 v = v := fun v hv =>
    rev13_of_mem_selfReversed (List.mem_reverse.1 (hhigh ▸ hv))
  have hdecr := List.pairwise_iff_getElem.1 (hhigh ▸ selfReversed_decreasing n)
  refine ⟨(rom.drop (2 * pairs))[i], by simp, hself _ (List.getElem_mem hi), fun u hu => ?_⟩
  rw [Nat.add_assoc, ← List.getElem?_drop] at hu
  obtain ⟨hi', rfl⟩ := List.getElem?_eq_some_iff.1 hu
  exact hdecr i (i + 1) hi hi' (Nat.lt_succ_self i)

theorem rev13_mem_of_split (h : RomSplit rom n pairs) {v : Character} (hv : v ∈ rom) :
    rev13 v ∈ rom := by
  obtain ⟨hlow, hhigh⟩ := h
  rw [← List.take_append_drop (2 * pairs) rom, ← hlow, ← hhigh, List.mem_append] at hv ⊢
  rcases hv with hpair | hself
  · exact .inl (rev13_mem_pairsOf hpair)
  · rw [rev13_of_mem_selfReversed (List.mem_reverse.1 hself)]
    exact .inr hself

end

/-! ## The obligations -/

/-- Settles O28: GEN fills in the pairs and the self-symmetric values, which the listings split into. -/
theorem romContentsAreGenerated : Obligations.RomContentsAreGenerated :=
  ⟨gen_of_split rom2_split rom2_length, gen_of_split rom5_split rom5_length⟩

/-- Settles O29: both ROMs are what GEN fills in, pairs first. -/
theorem romPairStructure : Obligations.RomPairStructure := by
  intro rom pairs size hrom
  have h : ∃ n, RomSplit rom n pairs ∧ rom.length = size ∧ 2 * pairs ≤ size := by
    rcases hrom with ⟨rfl, rfl, rfl⟩ | ⟨rfl, rfl, rfl⟩
    · exact ⟨2, rom2_split, rom2_length, by decide⟩
    · exact ⟨5, rom5_split, rom5_length, by decide⟩
  obtain ⟨n, hsplit, rfl, hle⟩ := h
  exact ⟨rfl, fun j hj => pair_of_split hsplit hj hle,
    fun k hlow hk => selfReversed_of_split hsplit hlow hk⟩

/-- Settles O30: (d) holds because a ROM holds the reversal of each of its entries, and no entry
twice. -/
theorem romProperties : Obligations.RomProperties :=
  ⟨⟨rom2_length, rom5_length⟩,
    ⟨fun _ => popcount_of_mem_rom2, fun _ => popcount_of_mem_rom5⟩,
    ⟨rom2_nodup, rom5_nodup⟩,
    ⟨fun _ hv _ => List.count_eq_one_of_mem rom2_nodup (rev13_mem_of_split rom2_split hv),
      fun _ hv _ => List.count_eq_one_of_mem rom5_nodup (rev13_mem_of_split rom5_split hv)⟩,
    fun v _ => v.isLt⟩

end Sys2Proof.Machine
end

section
/-! SUPPORT. The FCS as a bit-serial CRC (R71 to R73), and the laws that follow from its step being
linear in register and message bit together (R77). -/

namespace Sys2Proof.Machine

/-- Absorbing one message bit (R71): bit 10 of the register is compared with the bit, and the shifted
register takes the generator when they differ. -/
def crcStep (f : Fcs) (b : Bool) : Fcs :=
  (f <<< 1) ^^^ (if f.getLsbD 10 != b then 0x735#11 else 0#11)

theorem fcsStep_eq_crcStep (f : Fcs) (d : BitVec 24) : fcsStep f d = crcStep f (d.getLsbD 10) := by
  have hmask : 0x400#24 = BitVec.twoPow 24 10 := rfl
  have hcond : (f.setWidth 24 ^^^ d) &&& 0x400#24 ≠ 0#24 ↔ (f.getLsbD 10 != d.getLsbD 10) = true := by
    rw [hmask, BitVec.and_twoPow, BitVec.getLsbD_xor, BitVec.getLsbD_setWidth]
    cases f.getLsbD 10 <;> cases d.getLsbD 10 <;> decide
  have hshift : (f.setWidth 12 <<< 1).setWidth 11 = f <<< 1 := by
    rw [BitVec.setWidth_shiftLeft_of_le (by decide), BitVec.setWidth_setWidth_of_le _ (by decide),
      BitVec.setWidth_eq]
  rw [fcsStep, crcStep, BitVec.setWidth_xor, hshift]
  by_cases h : (f.getLsbD 10 != d.getLsbD 10) = true
  · rw [if_pos (hcond.2 h), if_pos h]
    rfl
  · rw [if_neg (mt hcond.1 h), if_neg h, BitVec.xor_zero]

/-- Comparing two bits is XOR, and the shift is linear. -/
theorem crcStep_xor (f g : Fcs) (x y : Bool) :
    crcStep (f ^^^ g) (x ^^ y) = crcStep f x ^^^ crcStep g y := by
  have hgen : ∀ u v : Bool, (if (u ^^ v) != (x ^^ y) then 0x735#11 else 0#11) =
      (if u != x then 0x735#11 else 0#11) ^^^ (if v != y then 0x735#11 else 0#11) := by
    cases x <;> cases y <;> decide
  rw [crcStep, crcStep, crcStep, BitVec.getLsbD_xor, BitVec.shiftLeft_xor_distrib, hgen]
  ac_rfl

/-- The register after the first n of the bits 101, 100, …, 0 of the payload (R73). -/
def serialFcs (p : Payload) : Nat → Fcs
  | 0 => fcsInit
  | n + 1 => crcStep (serialFcs p n) (p.getLsbD (101 - n))

theorem serialFcs_eq_foldl (p : Payload) (n : Nat) :
    serialFcs p n = (List.range n).foldl (fun f k => crcStep f (p.getLsbD (101 - k))) fcsInit := by
  induction n with
  | zero => rfl
  | succ n ih => rw [serialFcs, ih, List.range_succ, List.foldl_append]; rfl

theorem getLsbD_shiftLeft_of_le {w s i : Nat} {x : BitVec w} (hs : s ≤ i) (hi : i < w) :
    (x <<< s).getLsbD i = x.getLsbD (i - s) := by
  rw [BitVec.getLsbD_shiftLeft, decide_eq_true hi, decide_eq_false (Nat.not_lt.2 hs), Bool.not_false,
    Bool.true_and, Bool.true_and]

/-- The inner loop of FCSGEN absorbs the payload's next m bits, if the message holds them from bit 10
downwards. -/
theorem fcsRepeat_serialFcs (p : Payload) {m n : Nat} {d : BitVec 24} (hm : m ≤ 11)
    (h : ∀ k < m, d.getLsbD (10 - k) = p.getLsbD (101 - (n + k))) :
    fcsRepeat m (serialFcs p n) d = serialFcs p (n + m) := by
  induction m generalizing n d with
  | zero => rfl
  | succ m ih =>
    have hstep : fcsStep (serialFcs p n) d = serialFcs p (n + 1) := by
      rw [fcsStep_eq_crcStep, serialFcs]
      exact congrArg _ (h 0 (by omega))
    rw [fcsRepeat, hstep, ih (by omega), Nat.add_right_comm, Nat.add_assoc]
    intro k hk
    have hpos : 10 - k - 1 = 10 - (k + 1) := by omega
    have hnext : n + (k + 1) = n + 1 + k := by omega
    rw [getLsbD_shiftLeft_of_le (by omega) (by omega), hpos, h (k + 1) (by omega), hnext]

/-- The low m bits of a byte, shifted below bit 11, are the payload's next m bits when the byte ends
where they do. -/
theorem fcsRepeat_payloadByte (p : Payload) {j m n s : Nat} (hm : m ≤ 8) (hs : m + s = 11)
    (hn : 96 - 8 * j + m + n = 102) :
    fcsRepeat m (serialFcs p n) ((payloadByte p j).setWidth 24 <<< s) = serialFcs p (n + m) := by
  refine fcsRepeat_serialFcs p (by omega) fun k hk => ?_
  have hpos : 96 - 8 * j + (10 - k - s) = 101 - (n + k) := by omega
  rw [getLsbD_shiftLeft_of_le (by omega) (by omega), BitVec.getLsbD_setWidth,
    decide_eq_true (by omega), Bool.true_and, payloadByte_getLsbD p j (by omega), hpos]

/-- Bytes 1 to m of the outer loop absorb 8 bits each, after the 6 of byte 0 (R72). -/
theorem foldl_fcsRepeat (p : Payload) {m : Nat} (hm : m ≤ 12) :
    (List.range' 1 m).foldl (fun f j => fcsRepeat 8 f ((payloadByte p j).setWidth 24 <<< 3))
      (fcsRepeat 6 fcsInit ((payloadByte p 0).setWidth 24 <<< 5)) = serialFcs p (6 + 8 * m) := by
  induction m with
  | zero => exact fcsRepeat_payloadByte p (n := 0) (by omega) rfl rfl
  | succ m ih =>
    rw [List.range'_1_concat, List.foldl_append, ih (by omega)]
    exact fcsRepeat_payloadByte p (by omega) rfl (by omega)

/-- R73: the byte form of FCSGEN is the serial form. -/
theorem fcsGen_eq_serialFcs (p : Payload) : fcsGen p = serialFcs p 102 :=
  foldl_fcsRepeat p (Nat.le_refl 12)

/-- The three registers start equal, and every step is linear. -/
theorem serialFcs_xor (a b : Payload) (n : Nat) :
    serialFcs (a ^^^ b) n = serialFcs a n ^^^ serialFcs b n ^^^ serialFcs 0 n := by
  induction n with
  | zero => exact (by decide : fcsInit = fcsInit ^^^ fcsInit ^^^ fcsInit)
  | succ n ih =>
    simp only [serialFcs, ih, ← crcStep_xor, BitVec.getLsbD_xor, BitVec.ofNat_eq_ofNat,
      BitVec.getLsbD_zero, Bool.xor_false]

/-! ## The obligations -/

/-- Settles O16: `crcStep` is the closed form. -/
theorem fcsStepClosedForm : Obligations.FcsStepClosedForm := fcsStep_eq_crcStep

/-- Settles O17: the wire takes FCSGEN, which is the serial CRC of all 102 bits. -/
theorem fcsgenGivesSerialCrc : Obligations.FcsgenGivesSerialCrc := by
  intro p s
  have hserial : fcsGen p =
      (List.range 102).foldl (fun f k => crcStep f (p.getLsbD (101 - k))) fcsInit :=
    (fcsGen_eq_serialFcs p).trans (serialFcs_eq_foldl p 102)
  exact congrArg (fun f => (.next (withWires { s.dp with fcs := f } s) : Answer)) hserial

/-- Settles O18: the mask keeps what TRUNCATE keeps. -/
theorem fcsIgnoresTopTwoBits : Obligations.FcsIgnoresTopTwoBits := by
  intro p
  refine fcsGen_eq_of_truncateOf_eq (truncateOf_eq_iff.2 ?_)
  have hmask : (BitVec.ofNat 104 (2 ^ 102 - 1)).toNat = 2 ^ 102 - 1 := by decide
  rw [BitVec.toNat_and, hmask, Nat.and_two_pow_sub_one_eq_mod, Nat.mod_mod]

/-- Settles O20: six closed values, by evaluation. -/
theorem fcsCornerValues : Obligations.FcsCornerValues := by
  unfold Obligations.FcsCornerValues
  decide +kernel

/-- Settles O19: the serial form is affine, with the value at 0 as its constant. -/
theorem fcsAffineLaw : Obligations.FcsAffineLaw := by
  intro a b
  obtain ⟨hzero, -⟩ := fcsCornerValues
  rw [← hzero, fcsGen_eq_serialFcs, fcsGen_eq_serialFcs, fcsGen_eq_serialFcs, fcsGen_eq_serialFcs]
  exact serialFcs_xor a b 102

end Sys2Proof.Machine
end

section
/-! SUPPORT. The decomposer's digits as a mixed-radix numeral (R79, R82): the digits of a number are
the only ones in range that spell it; and the codewords of an ENCODE as those digits (R80, R81). -/

namespace Sys2Proof.Machine

/-! ## The numeral -/

/-- The number that base-1365 digits spell, the least significant first, above them `top` (R82). -/
def radixValue (ds : List Codeword) (top : Nat) : Nat :=
  ds.foldr (fun c n => c.toNat + 1365 * n) top

/-- Each digit in range is the remainder of one more division by 1365. -/
theorem radixValue_eq_iff {ds : List Codeword} {top n : Nat}
    (hlt : ∀ (i : Nat) (h : i < ds.length), (ds[i]).toNat < 1365) :
    radixValue ds top = n ↔
      (∀ (i : Nat) (h : i < ds.length), (ds[i]).toNat = n / 1365 ^ i % 1365) ∧
        top = n / 1365 ^ ds.length := by
  induction ds generalizing n with
  | nil => simp [radixValue]
  | cons c cs ih =>
    have hc : c.toNat < 1365 := hlt 0 (Nat.succ_pos _)
    have hcs := ih (n := n / 1365) fun i h => hlt (i + 1) (Nat.succ_lt_succ h)
    have hdiv : ∀ i, n / 1365 / 1365 ^ i = n / 1365 ^ (i + 1) := fun i => by
      rw [Nat.div_div_eq_div_mul, Nat.pow_succ']
    simp only [hdiv] at hcs
    have hsplit : radixValue (c :: cs) top = n ↔
        c.toNat = n % 1365 ∧ radixValue cs top = n / 1365 := by
      rw [radixValue, List.foldr_cons, ← radixValue]
      omega
    simp only [hsplit, hcs, List.length_cons, Nat.forall_lt_succ_left', List.getElem_cons_zero,
      List.getElem_cons_succ, Nat.pow_zero, Nat.div_one, and_assoc]

/-- The number that the codewords before codeword 9 spell below `top` in its place (R82). -/
def digitsValue (w : Vector Codeword 10) (top : Nat) : Nat :=
  (w[0]).toNat / 2 + 636 * radixValue (List.ofFn fun i : Fin 8 => w[i.val + 1]) top

/-- Codewords 0 to 8 in the ranges of R81. -/
def DigitsInRange (w : Vector Codeword 10) : Prop :=
  (w[0]).toNat % 2 = 0 ∧ (w[0]).toNat ≤ 1270 ∧
    ∀ (i : Nat) (h : i < 8), (w[i + 1]'(by omega)).toNat ≤ 1364

/-- R82: the digits in range that spell a number are those that the decomposer takes from it. -/
theorem digitsValue_eq_iff {w : Vector Codeword 10} {top n : Nat} (hw : DigitsInRange w) :
    digitsValue w top = n ↔
      (∀ (i : Nat) (h : i < 9), (w[i]).toNat = digit n i) ∧ top = digit n 9 := by
  obtain ⟨heven, hle, hdigits⟩ := hw
  have hradix := radixValue_eq_iff (ds := List.ofFn fun i : Fin 8 => w[i.val + 1]) (top := top)
    (n := n / 636) fun i h => by
      rw [List.getElem_ofFn]
      exact Nat.lt_succ_of_le (hdigits i (by simpa using h))
  simp only [List.length_ofFn, List.getElem_ofFn] at hradix
  have hsplit : digitsValue w top = n ↔ (w[0]).toNat = 2 * (n % 636) ∧
      radixValue (List.ofFn fun i : Fin 8 => w[i.val + 1]) top = n / 636 := by
    rw [digitsValue]
    omega
  rw [hsplit, hradix, ← digit_nine, ← and_assoc, Nat.forall_lt_succ_left' (n := 8)]
  refine and_congr_left' (and_congr_right' (forall₂_congr fun i h => ?_))
  rw [digit_succ n h]

/-! ## The codewords of an ENCODE -/

theorem toNat_truncateOf (p : Payload) : (truncateOf p).toNat = p.toNat % 2 ^ 102 := by
  rw [truncateOf, payloadData, BitVec.extractLsb'_toNat, Nat.shiftRight_zero]

theorem toNat_encodeOf_cw_of_lt (p : Payload) {i : Nat} (hi : i < 9) :
    ((encodeOf p).cw[i]).toNat = digit (p.toNat % 2 ^ 102) i := by
  rw [← toNat_truncateOf, ← toNat_decomposeOf_getElem _ (by omega)]
  exact congrArg _ (codewordsOf_getElem_of_lt (fcsGen p) _ i hi)

theorem toNat_encodeOf_cw_nine (p : Payload) :
    ((encodeOf p).cw[9]).toNat =
      digit (p.toNat % 2 ^ 102) 9 + if (encodeOf p).fcs.getLsbD 10 then 659 else 0 := by
  rw [← toNat_truncateOf]
  exact toNat_codewordsOf_decomposeOf_nine (fcsGen p) (truncateOf p)

theorem digitsInRange_encodeOf_cw (p : Payload) : DigitsInRange (encodeOf p).cw := by
  have hzero := toNat_encodeOf_cw_of_lt p (i := 0) (by decide)
  rw [digit_zero] at hzero
  exact ⟨by omega, by omega,
    fun i h => codewordsOf_decomposeOf_le (fcsGen p) (truncateOf p) (Nat.succ_lt_succ (by omega))⟩

/-! ## The fold of any W[9] -/

/-- The sum of a FOLD is exact for every W[9] that leaves it in 11 bits (R80). -/
theorem toNat_foldOf_of_lt {w : Codeword} (h : w.toNat + 659 < 2048) :
    (foldOf w).toNat = w.toNat + 659 :=
  BitVec.toNat_add_of_lt h

/-! ## The obligations -/

/-- Settles O22: the registers hold the digits, and each digit has its closed form. -/
theorem decomposeGivesMixedRadixDigits : Obligations.DecomposeGivesMixedRadixDigits := by
  intro p s
  have hdigit : ∀ (i : Nat) (h : i < 10),
      ((decomposeOf (truncateOf p))[i]).toNat = digit (p.toNat % 2 ^ 102) i := fun i h => by
    rw [toNat_decomposeOf_getElem _ h, toNat_truncateOf]
  exact ⟨decomposeOf (truncateOf p), rfl, hdigit 0 (by decide),
    fun i h => (hdigit (i + 1) (by omega)).trans (digit_succ _ h),
    (hdigit 9 (by decide)).trans (digit_nine _)⟩

/-- Settles O24: the fold adds 659 to at most 661, and in contract to at most 658. -/
theorem codewordRanges : Obligations.CodewordRanges := by
  intro p
  obtain ⟨heven, hle, hdigits⟩ := digitsInRange_encodeOf_cw p
  refine ⟨heven, hle, hdigits, ?_, fun hp => ?_⟩ <;> rw [toNat_encodeOf_cw_nine]
  · have hw := digit_nine_le (Nat.mod_lt p.toNat (Nat.two_pow_pos 102))
    split <;> omega
  · have hw := digit_nine_lt_of_lt ((Nat.mod_le _ (2 ^ 102)).trans_lt (inContract_iff.1 hp))
    split <;> omega

/-- Settles O25: taking the fold off codeword 9 leaves the digits, which spell the payload. -/
theorem payloadFromCodewords : Obligations.PayloadFromCodewords := by
  intro p r w9
  have hnine : w9 = digit (p.toNat % 2 ^ 102) 9 := by
    simp only [w9, r, toNat_encodeOf_cw_nine, Nat.add_sub_cancel]
  exact ((digitsValue_eq_iff (digitsInRange_encodeOf_cw p)).2
    ⟨fun _ => toNat_encodeOf_cw_of_lt p, hnine⟩).symm

/-- Settles O26: the digits in range that spell v are the digits of v. -/
theorem everyDigitVectorIsReached : Obligations.EveryDigitVectorIsReached := by
  intro w v heven hle hdigits _
  have hspells : digitsValue w (w[9]).toNat = v := rfl
  obtain ⟨hlow, hnine⟩ := (digitsValue_eq_iff ⟨heven, hle, hdigits⟩).1 hspells
  intro hv
  ext1 i hi
  apply BitVec.eq_of_toNat_eq
  rw [toNat_decomposeOf_getElem _ hi, BitVec.toNat_ofNat, Nat.mod_eq_of_lt hv]
  by_cases hlt : i < 9
  · exact (hlow i hlt).symm
  · obtain rfl : i = 9 := by omega
    exact hnine.symm

/-- Settles O21: the data wire takes TRUNCATE. -/
theorem truncateKeepsLowBits : Obligations.TruncateKeepsLowBits :=
  fun p _ => ⟨truncateOf p, toNat_truncateOf p, rfl⟩

/-- Settles O23: the fold select is bit 10 of the FCS. -/
theorem foldAddsOffsetByFcsBitTen : Obligations.FoldAddsOffsetByFcsBitTen := by
  intro busy f s
  have hdecode : decode busy (.fold f) = .ok (if f.getLsbD 10 then .fold f else .nofold f) := rfl
  refine ⟨fun hbit hsum => ⟨?_, foldOf s.dp.w[9], toNat_foldOf_of_lt hsum, rfl⟩,
    fun hbit => ⟨?_, rfl⟩⟩
  · rw [hdecode, if_pos hbit]
  · rw [hdecode, if_neg (Bool.eq_false_iff.1 hbit)]

end Sys2Proof.Machine
end

section
/-! SUPPORT. The pattern mapper's rows and the population counts of its characters (R84 to R88). -/

namespace Sys2Proof.Machine

/-- R85, R88: the FCS bit of a codeword says whether its set bits or its clear bits are counted. -/
theorem popcount_charOf (f : Fcs) (i : Fin 10) (v : Character) :
    popcount (charOf f i v) =
      if f.getLsbD (9 - i.val) then 13 - popcount v else popcount v := by
  have hsum := popcount_complementOf_add v
  rw [charOf, complementSelected_eq_bit]
  split
  · omega
  · rfl

/-! ## The obligations -/

/-- Settles O31: each range of codewords has its decoder row and lies inside its ROM. -/
theorem lookupReadsRomEntry : Obligations.LookupReadsRomEntry := by
  intro busy i c s
  refine ⟨fun h => ⟨decodeLut_of_le h, rom5Read c, ?_, rfl⟩,
    fun hl hu => ⟨decodeLut_of_mem ⟨hl, hu⟩, rom2Read c, ?_, rfl⟩⟩
  · rw [rom5Read_eq h]
    exact List.getElem?_eq_getElem _
  · rw [rom2Read_eq hl hu]
    exact List.getElem?_eq_getElem _

/-- Settles O35: every codeword of an ENCODE is legal, so its pattern has 5 or 2 set bits, and FCS
bit 9 - (9 - k) complements it. -/
theorem characterPopcounts : Obligations.CharacterPopcounts := by
  intro p k hk r
  have hlegal : (r.cw[9 - k]).toNat ≤ 1364 := codewordsOf_decomposeOf_le _ _ (by omega)
  have hchr : r.chr[k] = charOf r.fcs ⟨9 - k, by omega⟩ (lookup r.cw[9 - k]) :=
    mapChars_getElem _ _ k hk
  have h9 : 9 - (9 - k) = k := by omega
  rw [hchr, popcount_charOf, popcount_lookup hlegal, h9]
  split_ifs <;> rfl

/-- Settles O33: the CHR wires take the reversal of the Q wires. -/
theorem reverseTurnsOrderRound : Obligations.ReverseTurnsOrderRound :=
  fun _ s => ⟨reverseOf s.dp.q, rfl, reverseOf_getElem s.dp.q⟩

end Sys2Proof.Machine
end

section
/-! SUPPORT. What a bar holds (R92), and what the default bar map reads (R90, R91, R94). -/

namespace Sys2Proof.Machine

/-! ## The value of a bar -/

theorem toNat_charBit (chr : Vector Character 10) (k : Fin 10) (pos : Fin 13) :
    (charBit chr k pos).toNat = (chr[k]).toNat / 2 ^ pos.val % 2 :=
  Nat.toNat_testBit _ _

theorem toNat_barWord (asc dsc : Bool) : (barWord asc dsc).toNat = asc.toNat * 2 + dsc.toNat := by
  revert asc dsc
  decide

/-- R92: the ascender half weighs 2 and the descender half 1. -/
theorem toNat_selectBar (e : BarEntry) (chr : Vector Character 10) :
    (selectBar e chr).toNat = (ascBit e chr).toNat * 2 + (dscBit e chr).toNat :=
  toNat_barWord _ _

/-! ## The places the default bar map reads -/

/-- The character bits (character, position) that drive the bar halves: the 65 descenders, then the
65 ascenders (R89). -/
def halfPlaces (m : BarMap) : List (Fin 10 × Fin 13) :=
  (List.finRange 65).map (fun i => (m[i].dscChr, m[i].dscPos)) ++
    (List.finRange 65).map fun i => (m[i].ascChr, m[i].ascPos)

@[simp] theorem length_halfPlaces (m : BarMap) : (halfPlaces m).length = 130 := by
  simp [halfPlaces]

theorem count_halfPlaces (m : BarMap) (k : Fin 10) (pos : Fin 13) :
    (halfPlaces m).count (k, pos) =
      ((List.finRange 65).countP fun i => m[i].dscChr = k ∧ m[i].dscPos = pos) +
      ((List.finRange 65).countP fun i => m[i].ascChr = k ∧ m[i].ascPos = pos) := by
  simp [halfPlaces, List.count_eq_countP, Function.comp_def, beq_eq_decide]

theorem mem_halfPlaces_barMap (place : Fin 10 × Fin 13) : place ∈ halfPlaces barMap := by
  obtain ⟨k, pos⟩ := place
  obtain ⟨i, ⟨rfl, rfl⟩ | ⟨rfl, rfl⟩⟩ := barMap_drives_every_bit k pos
  · exact List.mem_append_left _ (List.mem_map_of_mem (List.mem_finRange i))
  · exact List.mem_append_right _ (List.mem_map_of_mem (List.mem_finRange i))

/-- R91 (d): 130 halves that reach all 130 places reach each of them once. -/
theorem halfPlaces_barMap_perm_univ :
    (Finset.univ : Finset (Fin 10 × Fin 13)).toList.Perm (halfPlaces barMap) :=
  (List.subperm_of_subset (Finset.nodup_toList _)
    fun place _ => mem_halfPlaces_barMap place).perm_of_length_le (by simp)

/-! ## The obligations -/

/-- Settles O37: a bar is its entry's `selectBar`, and each half is a bit of a character. -/
theorem selectGivesAscTwiceDsc : Obligations.SelectGivesAscTwiceDsc := by
  intro m chr i
  have hbar : (selectBars m chr)[i] = selectBar m[i] chr := selectBars_getElem m chr i i.isLt
  rw [hbar, toNat_selectBar, ascBit, dscBit, toNat_charBit, toNat_charBit]

/-- Settles O40: every character bit drives a bar half, so no two character vectors share their
bars. -/
theorem barsDetermineCharacters : Obligations.BarsDetermineCharacters :=
  fun _ _ => selectBars_barMap_injective

/-- Settles O39: the places that the halves read are all the places, each listed once. -/
theorem eachCharacterBitDrivesOneBarHalf : Obligations.EachCharacterBitDrivesOneBarHalf := by
  intro k pos
  rw [← count_halfPlaces, ← halfPlaces_barMap_perm_univ.count_eq]
  exact List.count_eq_one_of_mem (Finset.nodup_toList _) (Finset.mem_toList.2 (Finset.mem_univ _))

end Sys2Proof.Machine
end

section
/-! SUPPORT. The commands one by one, and what an edge with an IN word does from its fields: the five
cases of R102, and runs of edges that only count or only idle (R96 to R104, R118). -/

namespace Sys2Proof.Machine

open Safety

/-! ## The meanings of a START word and of NOP -/

/-- ENCODE in state BUSY = 0 is accepted (R97). -/
theorem exec_encode_of_idle {x : Payload} {s : State} (h : s.busy = false) :
    exec (.encode x) s = .next (acceptAction x s) :=
  requestEdge_of_idle h

/-- The two rows of a START word have one meaning (R96; log entry 12). -/
theorem exec_encodeIgnored_eq_encode (x : Payload) (s : State) :
    exec (.encodeIgnored x) s = exec (.encode x) s := rfl

/-- A START word on a busy block is a busy edge (R100). -/
theorem exec_encodeIgnored_of_busy {x : Payload} {s : State} (h : s.busy = true) :
    exec (.encodeIgnored x) s = busyEdge s :=
  requestEdge_of_busy h

/-- NOP on an idle block changes nothing (R101). -/
theorem exec_nop_of_idle {x : Payload} {s : State} (h : s.busy = false) :
    exec (.nop x) s = .next s := by
  simp [exec, execNop, h]

/-! ## One edge, by the fields of the IN word (R102)

The busy edge with RST = 0 is `step_busy`. -/

/-- A step with an IN word runs the command that the word spells. -/
theorem step_of_cmd {s : State} {w : InWord} {rest : List Slot} (hf : s.feed = .cmd w :: rest) :
    step s = exec (decodeCommand s.busy w) (advance s) :=
  step_of_decode (by rw [fetch_of_feed_cons hf]; rfl)

/-- An edge with RST = 1, whatever START and PAYLOAD_IN (R118). -/
theorem step_reset {s : State} {w : InWord} {rest : List Slot} (hf : s.feed = .cmd w :: rest)
    (hrst : inRst w = true) : step s = .next (resetAction (advance s)) := by
  have hd : decodeCommand s.busy w = .reset (inStart w) (inPayload w) := by
    simp [decodeCommand, hrst]
  rw [step_of_cmd hf, hd]
  rfl

/-- An idle edge with RST = 0 and START = 1 (R97). -/
theorem step_request_of_idle {s : State} {w : InWord} {rest : List Slot} (hb : s.busy = false)
    (hf : s.feed = .cmd w :: rest) (hrst : inRst w = false) (hstart : inStart w = true) :
    step s = .next (acceptAction (inPayload w) (advance s)) := by
  rw [← inWord_of_fields w, hrst, hstart] at hf
  exact step_accept hb hf

/-- An idle edge with RST = 0 and START = 0 takes its word and does nothing else (R101). -/
theorem step_idle {s : State} {w : InWord} {rest : List Slot} (hb : s.busy = false)
    (hf : s.feed = .cmd w :: rest) (hw : idleInput w) : step s = .next (advance s) := by
  obtain ⟨hrst, hstart⟩ := hw
  have hd : decodeCommand s.busy w = .nop (inPayload w) := by
    simp [decodeCommand, hrst, hstart]
  rw [step_of_cmd hf, hd]
  exact exec_nop_of_idle hb

/-! The same edges, for a word put in front of the words to come. -/

theorem step_cons_reset (s : State) {w : InWord} (rest : List Slot) (hrst : inRst w = true) :
    step { s with feed := .cmd w :: rest } = .next (resetAction { s with feed := rest }) :=
  step_reset rfl hrst

theorem step_cons_busy {s : State} {w : InWord} (rest : List Slot) (hb : s.busy = true)
    (hw : rstLow w) :
    step { s with feed := .cmd w :: rest } = busyEdge { s with feed := rest } :=
  step_busy hb rfl hw

theorem step_cons_idle {s : State} {w : InWord} (rest : List Slot) (hb : s.busy = false)
    (hw : idleInput w) : step { s with feed := .cmd w :: rest } = .next { s with feed := rest } :=
  step_idle hb rfl hw

/-! ## Runs of edges of one kind -/

/-- Idle edges take their words from the feed and do nothing else (R101, R103). -/
theorem run_idle {ws : List InWord} {rest : List Slot} {s : State} (hb : s.busy = false)
    (hws : ∀ w ∈ ws, idleInput w) (hf : s.feed = ws.map Slot.cmd ++ rest) :
    core.run ws.length s = .next { s with feed := rest } := by
  induction ws generalizing s with
  | nil =>
    obtain rfl : s.feed = rest := hf
    exact core_run_zero s
  | cons w ws ih =>
    obtain ⟨hw, hws⟩ := List.forall_mem_cons.1 hws
    rw [List.length_cons, core_run_succ_of_next _ (step_idle hb hf hw)]
    exact ih (s := advance s) hb hws (by simp [hf])

/-- Fewer busy edges than CNT says count down and change nothing else (R98, R100). -/
theorem run_busy_counts {ws : List InWord} {rest : List Slot} {s : State} (hb : s.busy = true)
    (hlen : ws.length < s.cnt) (hws : ∀ w ∈ ws, rstLow w)
    (hf : s.feed = ws.map Slot.cmd ++ rest) :
    core.run ws.length s = .next { s with cnt := s.cnt - ws.length, feed := rest } := by
  induction ws generalizing s with
  | nil =>
    obtain rfl : s.feed = rest := hf
    exact core_run_zero s
  | cons w ws ih =>
    obtain ⟨hw, hws⟩ := List.forall_mem_cons.1 hws
    rw [List.length_cons] at hlen ⊢
    have hmore : 1 < (advance s).cnt := by rw [advance_cnt]; omega
    have hstep := (step_busy hb hf hw).trans (busyEdge_of_more hmore)
    have hleft : s.cnt - (ws.length + 1) = (countAction (advance s)).cnt - ws.length := by
      rw [countAction_cnt, advance_cnt]; omega
    rw [core_run_succ_of_next _ hstep, hleft]
    exact ih (s := countAction (advance s)) hb (by rw [countAction_cnt, advance_cnt]; omega) hws
      (by simp [hf])

/-- An accepted ENCODE is busy without results before each edge up to the completion (R97, R98,
R106). -/
theorem run_encode_busy {s : State} {p : Payload} {ws : List InWord} {rest : List Slot} {j : Nat}
    (hb : s.busy = false) (hj : j < Config.encLatency) (hlen : j ≤ ws.length)
    (hws : ∀ w ∈ ws, rstLow w)
    (hf : s.feed = .cmd (inWord false true p) :: (ws.map Slot.cmd ++ rest)) :
    ∃ t, core.run (j + 1) s = .next t ∧ t.busy = true ∧ t.done = false ∧ noResults t := by
  have hfirst : (ws.take j).length = j := List.length_take_of_le hlen
  have hfeed : (acceptAction p (advance s)).feed =
      (ws.take j).map Slot.cmd ++ ((ws.drop j).map Slot.cmd ++ rest) := by
    rw [← List.append_assoc, ← List.map_append, List.take_append_drop]
    simp [hf]
  have hrun := run_busy_counts (s := acceptAction p (advance s)) rfl (hfirst.trans_lt hj)
    (fun w hw => hws w (List.mem_of_mem_take hw)) hfeed
  rw [core_run_succ_of_next _ (step_accept hb hf)]
  rw [hfirst] at hrun
  exact ⟨_, hrun, rfl, rfl, noResults_acceptAction p (advance s)⟩

/-! ## The obligations -/

/-- Settles O7, by the cases of R102: each is one edge lemma, and in the last one a busy block would
have CNT = 0, which the invariant excludes. -/
theorem stepFollowsCaseTable : Obligations.StepFollowsCaseTable := by
  intro s w rest ⟨_, _, hbusy⟩ hf
  have hadv := advance_of_feed_cons hf
  split_ifs with hreset hreq hlast hmore
  · refine ⟨Config.freeCnt s.freeIdx, s.freeIdx + 1, ?_⟩
    rw [step_reset hf hreset, hadv]
    rfl
  all_goals have hrst : inRst w = false := Bool.eq_false_iff.2 hreset
  · obtain ⟨hb, hstart⟩ := hreq
    rw [step_request_of_idle hb hf hrst hstart, hadv]
    rfl
  · obtain ⟨hb, hc⟩ := hlast
    obtain ⟨-, hp, -⟩ := hbusy hb
    obtain ⟨p, hp⟩ := Option.isSome_iff_exists.1 hp
    refine ⟨p, Config.freeCnt s.freeIdx, s.freeIdx + 1, hp, ?_⟩
    rw [step_busy hb hf hrst, busyEdge_of_last (s := advance s) hc hp, hadv]
    rfl
  · obtain ⟨hb, hc⟩ := hmore
    rw [step_busy hb hf hrst, busyEdge_of_more (s := advance s) hc, hadv]
    rfl
  · have hb : s.busy = false := by
      refine Bool.eq_false_iff.2 fun hb => ?_
      obtain ⟨-, -, hpos⟩ := hbusy hb
      rcases hpos.eq_or_lt with hc | hc
      · exact hlast ⟨hb, hc.symm⟩
      · exact hmore ⟨hb, hc⟩
    have hstart : inStart w = false := by simpa [hb] using hreq
    exact ⟨hb, hstart, by rw [step_idle hb hf ⟨hrst, hstart⟩, hadv]⟩

/-- Settles O14: both words give the busy edge of the same state. -/
theorem startWhileBusyHasNoEffect : Obligations.StartWhileBusyHasNoEffect := by
  intro s w w' rest hb hrst _ hrst' _
  rw [step_cons_busy rest hb hrst, step_cons_busy rest hb hrst']

/-- Settles O48: the edges before the last count down the accepted ENCODE, and the last completes
it. -/
theorem encodeCompletesAfterLatency : Obligations.EncodeCompletesAfterLatency := by
  intro s p ws rest hb hlen hws hf
  refine ⟨fun k hpos hk => ?_, run_encode_completes hb hlen hws hf⟩
  obtain ⟨j, rfl⟩ := Nat.exists_eq_add_of_le' hpos
  exact run_encode_busy hb hk (by omega) hws hf

/-- Settles O49, by induction on the idle words: each edge only takes its word. -/
theorem resultsStableWhileIdle : Obligations.ResultsStableWhileIdle :=
  fun _ _ _ => run_idle

/-- Settles O50: of the four kinds of edge only the accept action takes the payload. -/
theorem payloadMattersOnlyWhenAccepted : Obligations.PayloadMattersOnlyWhenAccepted := by
  intro s w w' rest hrst hstart hnot
  by_cases hr : inRst w = true
  · rw [step_cons_reset s rest hr, step_cons_reset s rest (hrst ▸ hr)]
  · have hlow : rstLow w := Bool.eq_false_iff.2 hr
    have hlow' : rstLow w' := hrst.symm.trans hlow
    by_cases hb : s.busy = true
    · rw [step_cons_busy rest hb hlow, step_cons_busy rest hb hlow']
    · have hidle : s.busy = false := Bool.eq_false_iff.2 hb
      have hs : inStart w = false := Bool.eq_false_iff.2 fun hs => hnot ⟨hlow, hs, hidle⟩
      rw [step_cons_idle rest hidle ⟨hlow, hs⟩,
        step_cons_idle rest hidle ⟨hlow', hstart.symm.trans hs⟩]

/-- Settles O10: the accept action writes what R97 lists. -/
theorem encodeAcceptedWhenIdle : Obligations.EncodeAcceptedWhenIdle :=
  fun _ _ => exec_encode_of_idle

/-- Settles O11: the two rows have one meaning, which splits on BUSY. -/
theorem requestDependsOnBusyAlone : Obligations.RequestDependsOnBusyAlone := fun x _ s =>
  ⟨exec_encodeIgnored_eq_encode x s, exec_encode_of_idle,
    fun hb => (exec_encodeIgnored_of_busy hb).trans (exec_nop_of_busy hb).symm⟩

/-- Settles O12: both commands are a busy edge, which counts. -/
theorem busyEdgeCountsDown : Obligations.BusyEdgeCountsDown := fun _ _ hb hc =>
  ⟨(exec_nop_of_busy hb).trans (busyEdge_of_more hc),
    (exec_encodeIgnored_of_busy hb).trans (busyEdge_of_more hc)⟩

/-- Settles O13: both commands are a busy edge, which completes. -/
theorem completionWritesAllResults : Obligations.CompletionWritesAllResults :=
  fun _ _ _ hb hc hp => ⟨_, _, (exec_nop_of_busy hb).trans (busyEdge_of_last hc hp),
    (exec_encodeIgnored_of_busy hb).trans (busyEdge_of_last hc hp)⟩

/-- Settles O15: NOP on an idle block answers the state it was given. -/
theorem idleEdgeKeepsState : Obligations.IdleEdgeKeepsState := fun _ _ => exec_nop_of_idle

end Sys2Proof.Machine
end

section
/-! SUPPORT. The reset edge on any state (R118), and the result reads that fault (R28, R122). -/

namespace Sys2Proof.Machine

open Safety

/-- RESET is the reset action, whatever the inputs and the state before the edge are (R118). -/
theorem exec_reset (start : Bool) (x : Payload) (s : State) :
    exec (.reset start x) s = .next (resetAction s) := rfl

/-! ## The reads of a register without value -/

theorem fcsOut_of_none {s : State} (h : s.fcs = none) :
    fcsOut s = .error (.readOfNoValue .fcsOut) := by
  rw [fcsOut, h, readResult]

theorem cwOut_of_none {s : State} (h : s.cw = none) :
    cwOut s = .error (.readOfNoValue .cwOut) := by
  rw [cwOut, h, Option.map_none, readResult]

theorem chrOut_of_none {s : State} (h : s.chr = none) :
    chrOut s = .error (.readOfNoValue .chrOut) := by
  rw [chrOut, h, Option.map_none, readResult]

theorem barsOut_of_none {s : State} (h : s.bar = none) :
    barsOut s = .error (.readOfNoValue .barsOut) := by
  rw [barsOut, h, Option.map_none, readResult]

/-! ## The obligations -/

/-- Settles O8: the reset action writes what R118 lists, and CNT takes a free value. -/
theorem resetActionFromAnyState : Obligations.ResetActionFromAnyState :=
  fun start x s => ⟨_, _, exec_reset start x s⟩

/-- Settles O55: by the invariant the results hold no value while DONE = 0, and are those of the
captured payload while DONE = 1. -/
theorem resultReadsNeedDone : Obligations.ResultReadsNeedDone := by
  rintro s ⟨hdone, hnotDone, -⟩
  refine ⟨fun hd => ?_, fun hd => ?_⟩
  · obtain ⟨hfcs, hcw, hchr, hbar⟩ := hnotDone hd
    exact ⟨fcsOut_of_none hfcs, cwOut_of_none hcw, chrOut_of_none hchr, barsOut_of_none hbar⟩
  · obtain ⟨p, -, hfcs, hcw, hchr, hbar⟩ := hdone hd
    exact ⟨⟨_, fcsOut_of_some hfcs⟩, ⟨_, cwOut_of_some hcw⟩, ⟨_, chrOut_of_some hchr⟩,
      ⟨_, barsOut_of_some hbar⟩⟩

end Sys2Proof.Machine
end

section
/-! SUPPORT. A step as the execution of the decoded word, and the sample words and vectors of
95_test_vectors.md: words against the encoder, whole-function vectors unit by unit. -/

namespace Sys2Proof.Machine

/-- A host with nothing left to drive takes nothing from the feed (log entry 1). -/
theorem advance_of_feed_nil {s : State} (h : s.feed = []) : advance s = s := by
  obtain ⟨⟩ := s
  cases h
  rfl

/-- A word written out is read as the well-formed instruction that spells it. -/
theorem decode_of_eq_encode {busy : Bool} {x : Slot} {i : Instr} (hx : x = encode i)
    (hwf : i.wellFormed = true) (hb : i.allowedWhen busy = true) : decode busy x = .ok i :=
  hx ▸ decode_encode hwf hb

/-- The word of an idle host spells NOP with payload 0 (log entry 1). -/
theorem decode_idleWord (busy : Bool) : decode busy idleWord = .ok (.nop 0) :=
  decode_of_eq_encode (by decide) rfl rfl

/-- Encode unit by unit (R2, R95): the FCS, the codewords and the characters that the units hand on
give the results. -/
theorem encodeOf_of_units {p : Payload} {f : Fcs} {cw : Vector Codeword 10}
    {chr : Vector Character 10} (hf : fcsGen p = f)
    (hcw : codewordsOf f (decomposeOf (truncateOf p)) = cw) (hchr : mapChars cw f = chr) :
    encodeOf p = ⟨f, cw, chr, selectBars barMap chr⟩ := by
  subst hf hcw hchr
  rfl

/-! ## The obligations -/

/-- Settles O4: each word is the encoding of its instruction, which is well-formed and whose row
applies. -/
theorem sampleWordsDecode : Obligations.SampleWordsDecode := by
  unfold Obligations.SampleWordsDecode
  and_intros
  all_goals exact decode_of_eq_encode (by decide) (by decide) (by decide)

/-- Settles O6, by whether the feed holds a word. -/
theorem stepRunsDecodedInstruction : Obligations.StepRunsDecodedInstruction := by
  refine ⟨fun s x rest i hf hd => ?_, fun s hf => ?_⟩
  · rw [← advance_of_feed_cons hf]
    exact step_of_decode (by rw [fetch_of_feed_cons hf, hd])
  · have hstep : step s = exec (.nop 0) (advance s) :=
      step_of_decode (by rw [fetch_of_feed_nil hf, decode_idleWord])
    rw [hstep, advance_of_feed_nil hf]

/-- Settles O43: the FCS, codewords and characters of each vector's table, one unit at a time, and
then the bars that these characters give. -/
theorem encodeExampleVectors : Obligations.EncodeExampleVectors := by
  refine ⟨?v3, ?v4, ?e1, ?e5⟩
  case v3 =>
    rw [encodeOf_of_units (f := 0x606#11)
      (cw := #v[1026, 1333, 468, 470, 413, 198, 1363, 1113, 110, 659])
      (chr := #v[0x1154, 0x1F07, 0x01FE, 0x0110, 0x019A, 0x1298, 0x03A2, 0x03A1, 0x0084, 0x14EE])]
      <;> decide +kernel
  case v4 =>
    rw [encodeOf_of_units (f := 0x751#11)
      (cw := #v[602, 35, 1294, 816, 19, 861, 1022, 607, 787, 673])
      (chr := #v[0x0DCB, 0x085C, 0x08E4, 0x0B06, 0x06DD, 0x1740, 0x17C6, 0x1200, 0x123F, 0x1B2B])]
      <;> decide +kernel
  case e1 =>
    rw [encodeOf_of_units (f := 0x6E0#11) (cw := #v[0, 0, 0, 0, 0, 0, 0, 0, 0, 659])
      (chr := #v[0x1154, 0x001F, 0x001F, 0x001F, 0x001F, 0x1FE0, 0x1FE0, 0x1FE0, 0x001F, 0x1FE0])]
      <;> decide +kernel
  case e5 =>
    rw [encodeOf_of_units (f := 0x7BE#11)
      (cw := #v[78, 1159, 1006, 720, 744, 1214, 622, 226, 706, 1320])
      (chr := #v[0x0840, 0x19E5, 0x1E39, 0x1AE6, 0x0DF4, 0x197C, 0x062C, 0x157A, 0x06DE, 0x1F31])]
      <;> decide +kernel
end Sys2Proof.Machine
end
